-- ==== Sys2Proof/Word.lean ====
section
/-! DEFINITION. The two word sizes of the machine (00_scope.md R5, R12). -/

namespace Sys2Proof

/-- An 8-bit unsigned value (R5: "Byte: 8-bit unsigned value"). -/
abbrev Byte := BitVec 8

/-- A 16-bit unsigned value: a register pair, `SP`, `PC`, an address (R5). -/
abbrev Word := BitVec 16

end Sys2Proof
end

