-- ==== Sys2Proof/Config.lean ====
section
/-! DEFINITION. What an implementation fixes (00_scope.md R6 to R10) and the free inputs of a run
(R11). A constant without a body is open: nothing proved about the model rests on a value of it. -/

namespace Sys2Proof.Config

/-- The polarity of `AC` after a subtraction (R6). -/
inductive AcSub where
  | borrow
  | carry
deriving DecidableEq, Repr, Inhabited

/-- What opcode byte 0xCB does (R7). -/
inductive CbBehaviour where
  | jmp
  | refuse
deriving DecidableEq, Repr

/-- When `step()` services a pending interrupt (R10). -/
inductive IntStepGate where
  | pendingOnly
  | pendingAndInte
deriving DecidableEq, Repr

/-- Parameter `AC_SUB`, OPEN in the spec (R6, decision D7): no value is chosen, so every claim holds
for both. Log entry 5. -/
opaque acSub : AcSub

/-- Parameter `CB_BEHAVIOUR` at its default (R7). Log entry 8. -/
def cbBehaviour : CbBehaviour := .jmp

/-- Parameter `RESET_PC` at its default, absent (R8). Log entry 2. -/
def resetPc : Option Word := none

/-- Parameter `ROTATE_THROUGH_CARRY` at the one normative value (R9). Log entry 9. -/
def rotateThroughCarry : Bool := false

/-- Parameter `INT_STEP_GATE` at its default (R10). Log entry 10. -/
def intStepGate : IntStepGate := .pendingOnly

/-- The draw `LOGIC_AC` (R11, 40_alu_microops.md R140): an unconstrained bit for each draw number.
Log entry 6. -/
opaque logicAc : Nat → Bool

/-- The host's answer to `PortIn(p)` (R11, 20_memory.md R77): an unconstrained byte for each draw
number and port. Log entry 7. -/
opaque portIn : Nat → Byte → Byte

end Sys2Proof.Config
end

