-- ==== Sys2Proof/Syntax.lean ====
section
/-! DEFINITION. The instructions: one constructor for each of the 256 rows of opcode_table.json
(30_encoding.md R105), named by its mnemonic; an alias encoding (R106 to R109) carries its opcode byte
in its name. The operand bytes that follow the opcode in the instruction stream are the constructor's
argument (R90). Rows with an operand stand first: Lean keeps the tags above 243 for constructors
without a field (log entry 24). -/

namespace Sys2Proof

/-- The 8-bit registers that a 3-bit code names (30_encoding.md R96). -/
inductive Reg8 where
  | b | c | d | e | h | l | a
deriving DecidableEq, Repr

/-- An 8-bit operand: a register, or `M`, the memory byte at `HL` (30_encoding.md R94, R96). -/
inductive Operand8 where
  | reg (r : Reg8)
  | m
deriving DecidableEq, Repr

/-- The pairs of `LXI`, `DAD`, `INX`, `DCX` (30_encoding.md R97). -/
inductive Rp where
  | bc | de | hl | sp
deriving DecidableEq, Repr

/-- The pairs of `LDAX` and `STAX` (30_encoding.md R97). -/
inductive RpIndirect where
  | bc | de
deriving DecidableEq, Repr

/-- The pairs of `PUSH` and `POP` (30_encoding.md R98). -/
inductive Rpq where
  | bc | de | hl | psw
deriving DecidableEq, Repr

/-- The conditions of jumps, calls and returns (30_encoding.md R99). -/
inductive Cond where
  | nz | z | nc | c | po | pe | p | m
deriving DecidableEq, Repr

/-- The eight accumulator operations of quadrants 10 and 11 (30_encoding.md R103, R104). -/
inductive AccOp where
  | add | adc | sub | sbb | ana | xra | ora | cmp
deriving DecidableEq, Repr

/-- The instructions. Names: the mnemonic in lower case with its registers; `inp` and `outp` are `IN`
and `OUT`. -/
inductive Instr where
  -- three bytes
  | lxiB (d16 : Word)        -- 0x01 LXI B,d16
  | lxiD (d16 : Word)        -- 0x11 LXI D,d16
  | lxiH (d16 : Word)        -- 0x21 LXI H,d16
  | shld (a16 : Word)        -- 0x22 SHLD a16
  | lhld (a16 : Word)        -- 0x2A LHLD a16
  | lxiSP (d16 : Word)       -- 0x31 LXI SP,d16
  | sta (a16 : Word)         -- 0x32 STA a16
  | lda (a16 : Word)         -- 0x3A LDA a16
  | jnz (a16 : Word)         -- 0xC2 JNZ a16
  | jmp (a16 : Word)         -- 0xC3 JMP a16
  | cnz (a16 : Word)         -- 0xC4 CNZ a16
  | jz (a16 : Word)          -- 0xCA JZ a16
  | jmpCB (a16 : Word)       -- 0xCB JMP a16 (alias)
  | cz (a16 : Word)          -- 0xCC CZ a16
  | call (a16 : Word)        -- 0xCD CALL a16
  | jnc (a16 : Word)         -- 0xD2 JNC a16
  | cnc (a16 : Word)         -- 0xD4 CNC a16
  | jc (a16 : Word)          -- 0xDA JC a16
  | cc (a16 : Word)          -- 0xDC CC a16
  | callDD (a16 : Word)      -- 0xDD CALL a16 (alias)
  | jpo (a16 : Word)         -- 0xE2 JPO a16
  | cpo (a16 : Word)         -- 0xE4 CPO a16
  | jpe (a16 : Word)         -- 0xEA JPE a16
  | cpe (a16 : Word)         -- 0xEC CPE a16
  | callED (a16 : Word)      -- 0xED CALL a16 (alias)
  | jp (a16 : Word)          -- 0xF2 JP a16
  | cp (a16 : Word)          -- 0xF4 CP a16
  | jm (a16 : Word)          -- 0xFA JM a16
  | cm (a16 : Word)          -- 0xFC CM a16
  | callFD (a16 : Word)      -- 0xFD CALL a16 (alias)
  -- two bytes
  | mviB (d8 : Byte)         -- 0x06 MVI B,d8
  | mviC (d8 : Byte)         -- 0x0E MVI C,d8
  | mviD (d8 : Byte)         -- 0x16 MVI D,d8
  | mviE (d8 : Byte)         -- 0x1E MVI E,d8
  | mviH (d8 : Byte)         -- 0x26 MVI H,d8
  | mviL (d8 : Byte)         -- 0x2E MVI L,d8
  | mviM (d8 : Byte)         -- 0x36 MVI M,d8
  | mviA (d8 : Byte)         -- 0x3E MVI A,d8
  | adi (d8 : Byte)          -- 0xC6 ADI d8
  | aci (d8 : Byte)          -- 0xCE ACI d8
  | outp (p8 : Byte)         -- 0xD3 OUT p8
  | sui (d8 : Byte)          -- 0xD6 SUI d8
  | inp (p8 : Byte)          -- 0xDB IN p8
  | sbi (d8 : Byte)          -- 0xDE SBI d8
  | ani (d8 : Byte)          -- 0xE6 ANI d8
  | xri (d8 : Byte)          -- 0xEE XRI d8
  | ori (d8 : Byte)          -- 0xF6 ORI d8
  | cpi (d8 : Byte)          -- 0xFE CPI d8
  -- one byte
  | nop                      -- 0x00 NOP
  | staxB                    -- 0x02 STAX B
  | inxB                     -- 0x03 INX B
  | inrB                     -- 0x04 INR B
  | dcrB                     -- 0x05 DCR B
  | rlc                      -- 0x07 RLC
  | nop08                    -- 0x08 NOP (alias)
  | dadB                     -- 0x09 DAD B
  | ldaxB                    -- 0x0A LDAX B
  | dcxB                     -- 0x0B DCX B
  | inrC                     -- 0x0C INR C
  | dcrC                     -- 0x0D DCR C
  | rrc                      -- 0x0F RRC
  | nop10                    -- 0x10 NOP (alias)
  | staxD                    -- 0x12 STAX D
  | inxD                     -- 0x13 INX D
  | inrD                     -- 0x14 INR D
  | dcrD                     -- 0x15 DCR D
  | ral                      -- 0x17 RAL
  | nop18                    -- 0x18 NOP (alias)
  | dadD                     -- 0x19 DAD D
  | ldaxD                    -- 0x1A LDAX D
  | dcxD                     -- 0x1B DCX D
  | inrE                     -- 0x1C INR E
  | dcrE                     -- 0x1D DCR E
  | rar                      -- 0x1F RAR
  | nop20                    -- 0x20 NOP (alias)
  | inxH                     -- 0x23 INX H
  | inrH                     -- 0x24 INR H
  | dcrH                     -- 0x25 DCR H
  | daa                      -- 0x27 DAA
  | nop28                    -- 0x28 NOP (alias)
  | dadH                     -- 0x29 DAD H
  | dcxH                     -- 0x2B DCX H
  | inrL                     -- 0x2C INR L
  | dcrL                     -- 0x2D DCR L
  | cma                      -- 0x2F CMA
  | nop30                    -- 0x30 NOP (alias)
  | inxSP                    -- 0x33 INX SP
  | inrM                     -- 0x34 INR M
  | dcrM                     -- 0x35 DCR M
  | stc                      -- 0x37 STC
  | nop38                    -- 0x38 NOP (alias)
  | dadSP                    -- 0x39 DAD SP
  | dcxSP                    -- 0x3B DCX SP
  | inrA                     -- 0x3C INR A
  | dcrA                     -- 0x3D DCR A
  | cmc                      -- 0x3F CMC
  | movBB                    -- 0x40 MOV B,B
  | movBC                    -- 0x41 MOV B,C
  | movBD                    -- 0x42 MOV B,D
  | movBE                    -- 0x43 MOV B,E
  | movBH                    -- 0x44 MOV B,H
  | movBL                    -- 0x45 MOV B,L
  | movBM                    -- 0x46 MOV B,M
  | movBA                    -- 0x47 MOV B,A
  | movCB                    -- 0x48 MOV C,B
  | movCC                    -- 0x49 MOV C,C
  | movCD                    -- 0x4A MOV C,D
  | movCE                    -- 0x4B MOV C,E
  | movCH                    -- 0x4C MOV C,H
  | movCL                    -- 0x4D MOV C,L
  | movCM                    -- 0x4E MOV C,M
  | movCA                    -- 0x4F MOV C,A
  | movDB                    -- 0x50 MOV D,B
  | movDC                    -- 0x51 MOV D,C
  | movDD                    -- 0x52 MOV D,D
  | movDE                    -- 0x53 MOV D,E
  | movDH                    -- 0x54 MOV D,H
  | movDL                    -- 0x55 MOV D,L
  | movDM                    -- 0x56 MOV D,M
  | movDA                    -- 0x57 MOV D,A
  | movEB                    -- 0x58 MOV E,B
  | movEC                    -- 0x59 MOV E,C
  | movED                    -- 0x5A MOV E,D
  | movEE                    -- 0x5B MOV E,E
  | movEH                    -- 0x5C MOV E,H
  | movEL                    -- 0x5D MOV E,L
  | movEM                    -- 0x5E MOV E,M
  | movEA                    -- 0x5F MOV E,A
  | movHB                    -- 0x60 MOV H,B
  | movHC                    -- 0x61 MOV H,C
  | movHD                    -- 0x62 MOV H,D
  | movHE                    -- 0x63 MOV H,E
  | movHH                    -- 0x64 MOV H,H
  | movHL                    -- 0x65 MOV H,L
  | movHM                    -- 0x66 MOV H,M
  | movHA                    -- 0x67 MOV H,A
  | movLB                    -- 0x68 MOV L,B
  | movLC                    -- 0x69 MOV L,C
  | movLD                    -- 0x6A MOV L,D
  | movLE                    -- 0x6B MOV L,E
  | movLH                    -- 0x6C MOV L,H
  | movLL                    -- 0x6D MOV L,L
  | movLM                    -- 0x6E MOV L,M
  | movLA                    -- 0x6F MOV L,A
  | movMB                    -- 0x70 MOV M,B
  | movMC                    -- 0x71 MOV M,C
  | movMD                    -- 0x72 MOV M,D
  | movME                    -- 0x73 MOV M,E
  | movMH                    -- 0x74 MOV M,H
  | movML                    -- 0x75 MOV M,L
  | hlt                      -- 0x76 HLT
  | movMA                    -- 0x77 MOV M,A
  | movAB                    -- 0x78 MOV A,B
  | movAC                    -- 0x79 MOV A,C
  | movAD                    -- 0x7A MOV A,D
  | movAE                    -- 0x7B MOV A,E
  | movAH                    -- 0x7C MOV A,H
  | movAL                    -- 0x7D MOV A,L
  | movAM                    -- 0x7E MOV A,M
  | movAA                    -- 0x7F MOV A,A
  | addB                     -- 0x80 ADD B
  | addC                     -- 0x81 ADD C
  | addD                     -- 0x82 ADD D
  | addE                     -- 0x83 ADD E
  | addH                     -- 0x84 ADD H
  | addL                     -- 0x85 ADD L
  | addM                     -- 0x86 ADD M
  | addA                     -- 0x87 ADD A
  | adcB                     -- 0x88 ADC B
  | adcC                     -- 0x89 ADC C
  | adcD                     -- 0x8A ADC D
  | adcE                     -- 0x8B ADC E
  | adcH                     -- 0x8C ADC H
  | adcL                     -- 0x8D ADC L
  | adcM                     -- 0x8E ADC M
  | adcA                     -- 0x8F ADC A
  | subB                     -- 0x90 SUB B
  | subC                     -- 0x91 SUB C
  | subD                     -- 0x92 SUB D
  | subE                     -- 0x93 SUB E
  | subH                     -- 0x94 SUB H
  | subL                     -- 0x95 SUB L
  | subM                     -- 0x96 SUB M
  | subA                     -- 0x97 SUB A
  | sbbB                     -- 0x98 SBB B
  | sbbC                     -- 0x99 SBB C
  | sbbD                     -- 0x9A SBB D
  | sbbE                     -- 0x9B SBB E
  | sbbH                     -- 0x9C SBB H
  | sbbL                     -- 0x9D SBB L
  | sbbM                     -- 0x9E SBB M
  | sbbA                     -- 0x9F SBB A
  | anaB                     -- 0xA0 ANA B
  | anaC                     -- 0xA1 ANA C
  | anaD                     -- 0xA2 ANA D
  | anaE                     -- 0xA3 ANA E
  | anaH                     -- 0xA4 ANA H
  | anaL                     -- 0xA5 ANA L
  | anaM                     -- 0xA6 ANA M
  | anaA                     -- 0xA7 ANA A
  | xraB                     -- 0xA8 XRA B
  | xraC                     -- 0xA9 XRA C
  | xraD                     -- 0xAA XRA D
  | xraE                     -- 0xAB XRA E
  | xraH                     -- 0xAC XRA H
  | xraL                     -- 0xAD XRA L
  | xraM                     -- 0xAE XRA M
  | xraA                     -- 0xAF XRA A
  | oraB                     -- 0xB0 ORA B
  | oraC                     -- 0xB1 ORA C
  | oraD                     -- 0xB2 ORA D
  | oraE                     -- 0xB3 ORA E
  | oraH                     -- 0xB4 ORA H
  | oraL                     -- 0xB5 ORA L
  | oraM                     -- 0xB6 ORA M
  | oraA                     -- 0xB7 ORA A
  | cmpB                     -- 0xB8 CMP B
  | cmpC                     -- 0xB9 CMP C
  | cmpD                     -- 0xBA CMP D
  | cmpE                     -- 0xBB CMP E
  | cmpH                     -- 0xBC CMP H
  | cmpL                     -- 0xBD CMP L
  | cmpM                     -- 0xBE CMP M
  | cmpA                     -- 0xBF CMP A
  | rnz                      -- 0xC0 RNZ
  | popB                     -- 0xC1 POP B
  | pushB                    -- 0xC5 PUSH B
  | rst0                     -- 0xC7 RST 0
  | rz                       -- 0xC8 RZ
  | ret                      -- 0xC9 RET
  | rst1                     -- 0xCF RST 1
  | rnc                      -- 0xD0 RNC
  | popD                     -- 0xD1 POP D
  | pushD                    -- 0xD5 PUSH D
  | rst2                     -- 0xD7 RST 2
  | rc                       -- 0xD8 RC
  | retD9                    -- 0xD9 RET (alias)
  | rst3                     -- 0xDF RST 3
  | rpo                      -- 0xE0 RPO
  | popH                     -- 0xE1 POP H
  | xthl                     -- 0xE3 XTHL
  | pushH                    -- 0xE5 PUSH H
  | rst4                     -- 0xE7 RST 4
  | rpe                      -- 0xE8 RPE
  | pchl                     -- 0xE9 PCHL
  | xchg                     -- 0xEB XCHG
  | rst5                     -- 0xEF RST 5
  | rp                       -- 0xF0 RP
  | popPSW                   -- 0xF1 POP PSW
  | di                       -- 0xF3 DI
  | pushPSW                  -- 0xF5 PUSH PSW
  | rst6                     -- 0xF7 RST 6
  | rm                       -- 0xF8 RM
  | sphl                     -- 0xF9 SPHL
  | ei                       -- 0xFB EI
  | rst7                     -- 0xFF RST 7
deriving DecidableEq, Repr

/-! ## Families

Each of these names the members of one family by their operand fields. -/

/-- `MOV r1,r2` (R161). -/
def Instr.mov : Reg8 → Reg8 → Instr
  | .b, .b => .movBB
  | .b, .c => .movBC
  | .b, .d => .movBD
  | .b, .e => .movBE
  | .b, .h => .movBH
  | .b, .l => .movBL
  | .b, .a => .movBA
  | .c, .b => .movCB
  | .c, .c => .movCC
  | .c, .d => .movCD
  | .c, .e => .movCE
  | .c, .h => .movCH
  | .c, .l => .movCL
  | .c, .a => .movCA
  | .d, .b => .movDB
  | .d, .c => .movDC
  | .d, .d => .movDD
  | .d, .e => .movDE
  | .d, .h => .movDH
  | .d, .l => .movDL
  | .d, .a => .movDA
  | .e, .b => .movEB
  | .e, .c => .movEC
  | .e, .d => .movED
  | .e, .e => .movEE
  | .e, .h => .movEH
  | .e, .l => .movEL
  | .e, .a => .movEA
  | .h, .b => .movHB
  | .h, .c => .movHC
  | .h, .d => .movHD
  | .h, .e => .movHE
  | .h, .h => .movHH
  | .h, .l => .movHL
  | .h, .a => .movHA
  | .l, .b => .movLB
  | .l, .c => .movLC
  | .l, .d => .movLD
  | .l, .e => .movLE
  | .l, .h => .movLH
  | .l, .l => .movLL
  | .l, .a => .movLA
  | .a, .b => .movAB
  | .a, .c => .movAC
  | .a, .d => .movAD
  | .a, .e => .movAE
  | .a, .h => .movAH
  | .a, .l => .movAL
  | .a, .a => .movAA

/-- `MOV r,M` (R162). -/
def Instr.movFromM : Reg8 → Instr
  | .b => .movBM
  | .c => .movCM
  | .d => .movDM
  | .e => .movEM
  | .h => .movHM
  | .l => .movLM
  | .a => .movAM

/-- `MOV M,r` (R163). -/
def Instr.movToM : Reg8 → Instr
  | .b => .movMB
  | .c => .movMC
  | .d => .movMD
  | .e => .movME
  | .h => .movMH
  | .l => .movML
  | .a => .movMA

/-- `MVI r,d8` and `MVI M,d8` (R164, R165). -/
def Instr.mvi : Operand8 → Byte → Instr
  | .reg .b, v => .mviB v
  | .reg .c, v => .mviC v
  | .reg .d, v => .mviD v
  | .reg .e, v => .mviE v
  | .reg .h, v => .mviH v
  | .reg .l, v => .mviL v
  | .reg .a, v => .mviA v
  | .m, v => .mviM v

/-- `INR r` and `INR M` (R191, R192). -/
def Instr.inr : Operand8 → Instr
  | .reg .b => .inrB
  | .reg .c => .inrC
  | .reg .d => .inrD
  | .reg .e => .inrE
  | .reg .h => .inrH
  | .reg .l => .inrL
  | .reg .a => .inrA
  | .m => .inrM

/-- `DCR r` and `DCR M` (R193, R194). -/
def Instr.dcr : Operand8 → Instr
  | .reg .b => .dcrB
  | .reg .c => .dcrC
  | .reg .d => .dcrD
  | .reg .e => .dcrE
  | .reg .h => .dcrH
  | .reg .l => .dcrL
  | .reg .a => .dcrA
  | .m => .dcrM

/-- The accumulator operations on a register or `M` (R103). -/
def Instr.acc : AccOp → Operand8 → Instr
  | .add, .reg .b => .addB
  | .add, .reg .c => .addC
  | .add, .reg .d => .addD
  | .add, .reg .e => .addE
  | .add, .reg .h => .addH
  | .add, .reg .l => .addL
  | .add, .reg .a => .addA
  | .add, .m => .addM
  | .adc, .reg .b => .adcB
  | .adc, .reg .c => .adcC
  | .adc, .reg .d => .adcD
  | .adc, .reg .e => .adcE
  | .adc, .reg .h => .adcH
  | .adc, .reg .l => .adcL
  | .adc, .reg .a => .adcA
  | .adc, .m => .adcM
  | .sub, .reg .b => .subB
  | .sub, .reg .c => .subC
  | .sub, .reg .d => .subD
  | .sub, .reg .e => .subE
  | .sub, .reg .h => .subH
  | .sub, .reg .l => .subL
  | .sub, .reg .a => .subA
  | .sub, .m => .subM
  | .sbb, .reg .b => .sbbB
  | .sbb, .reg .c => .sbbC
  | .sbb, .reg .d => .sbbD
  | .sbb, .reg .e => .sbbE
  | .sbb, .reg .h => .sbbH
  | .sbb, .reg .l => .sbbL
  | .sbb, .reg .a => .sbbA
  | .sbb, .m => .sbbM
  | .ana, .reg .b => .anaB
  | .ana, .reg .c => .anaC
  | .ana, .reg .d => .anaD
  | .ana, .reg .e => .anaE
  | .ana, .reg .h => .anaH
  | .ana, .reg .l => .anaL
  | .ana, .reg .a => .anaA
  | .ana, .m => .anaM
  | .xra, .reg .b => .xraB
  | .xra, .reg .c => .xraC
  | .xra, .reg .d => .xraD
  | .xra, .reg .e => .xraE
  | .xra, .reg .h => .xraH
  | .xra, .reg .l => .xraL
  | .xra, .reg .a => .xraA
  | .xra, .m => .xraM
  | .ora, .reg .b => .oraB
  | .ora, .reg .c => .oraC
  | .ora, .reg .d => .oraD
  | .ora, .reg .e => .oraE
  | .ora, .reg .h => .oraH
  | .ora, .reg .l => .oraL
  | .ora, .reg .a => .oraA
  | .ora, .m => .oraM
  | .cmp, .reg .b => .cmpB
  | .cmp, .reg .c => .cmpC
  | .cmp, .reg .d => .cmpD
  | .cmp, .reg .e => .cmpE
  | .cmp, .reg .h => .cmpH
  | .cmp, .reg .l => .cmpL
  | .cmp, .reg .a => .cmpA
  | .cmp, .m => .cmpM

/-- The accumulator operations on an immediate byte (R104). -/
def Instr.accImm : AccOp → Byte → Instr
  | .add, v => .adi v
  | .adc, v => .aci v
  | .sub, v => .sui v
  | .sbb, v => .sbi v
  | .ana, v => .ani v
  | .xra, v => .xri v
  | .ora, v => .ori v
  | .cmp, v => .cpi v

/-- `LXI rp,d16` (R166). -/
def Instr.lxi : Rp → Word → Instr
  | .bc, v => .lxiB v
  | .de, v => .lxiD v
  | .hl, v => .lxiH v
  | .sp, v => .lxiSP v

/-- `INX rp` (R195). -/
def Instr.inx : Rp → Instr
  | .bc => .inxB
  | .de => .inxD
  | .hl => .inxH
  | .sp => .inxSP

/-- `DCX rp` (R196). -/
def Instr.dcx : Rp → Instr
  | .bc => .dcxB
  | .de => .dcxD
  | .hl => .dcxH
  | .sp => .dcxSP

/-- `DAD rp` (R209). -/
def Instr.dad : Rp → Instr
  | .bc => .dadB
  | .de => .dadD
  | .hl => .dadH
  | .sp => .dadSP

/-- `LDAX rp` (R169). -/
def Instr.ldax : RpIndirect → Instr
  | .bc => .ldaxB
  | .de => .ldaxD

/-- `STAX rp` (R170). -/
def Instr.stax : RpIndirect → Instr
  | .bc => .staxB
  | .de => .staxD

/-- `PUSH rp` and `PUSH PSW` (R292, R293). -/
def Instr.push : Rpq → Instr
  | .bc => .pushB
  | .de => .pushD
  | .hl => .pushH
  | .psw => .pushPSW

/-- `POP rp` and `POP PSW` (R294, R295). -/
def Instr.pop : Rpq → Instr
  | .bc => .popB
  | .de => .popD
  | .hl => .popH
  | .psw => .popPSW

/-- `Jccc a16` (R253 to R260). -/
def Instr.jumpIf : Cond → Word → Instr
  | .nz, v => .jnz v
  | .z, v => .jz v
  | .nc, v => .jnc v
  | .c, v => .jc v
  | .po, v => .jpo v
  | .pe, v => .jpe v
  | .p, v => .jp v
  | .m, v => .jm v

/-- `Cccc a16` (R262 to R269). -/
def Instr.callIf : Cond → Word → Instr
  | .nz, v => .cnz v
  | .z, v => .cz v
  | .nc, v => .cnc v
  | .c, v => .cc v
  | .po, v => .cpo v
  | .pe, v => .cpe v
  | .p, v => .cp v
  | .m, v => .cm v

/-- `Rccc` (R271 to R278). -/
def Instr.retIf : Cond → Instr
  | .nz => .rnz
  | .z => .rz
  | .nc => .rnc
  | .c => .rc
  | .po => .rpo
  | .pe => .rpe
  | .p => .rp
  | .m => .rm

/-- `RST n` (R279). -/
def Instr.rst (n : Fin 8) : Instr :=
  (#v[.rst0, .rst1, .rst2, .rst3, .rst4, .rst5, .rst6, .rst7] : Vector Instr 8).get n

/-- The seven alias encodings of `NOP`, by `ddd - 1` (R106, R306). -/
def Instr.nopAlias (n : Fin 7) : Instr :=
  (#v[.nop08, .nop10, .nop18, .nop20, .nop28, .nop30, .nop38] : Vector Instr 7).get n

end Sys2Proof
end

