-- ==== Sys2Proof/WellFormed.lean ====
section
/-! DEFINITION. Which instructions are well formed. Operand widths are carried by the types, so the one
check left is the parameter `CB_BEHAVIOUR` (00_scope.md R7). -/

namespace Sys2Proof

/-- Opcode 0xCB is an instruction only while `CB_BEHAVIOUR = jmp`; with `refuse` it has no meaning
(30_encoding.md R109). Every other opcode byte is always well formed (R91, R110). -/
def Instr.wellFormedUnder (cb : Config.CbBehaviour) : Instr → Bool
  | .jmpCB _ => cb == .jmp
  | _ => true

/-- Well formed for this machine's configuration. -/
def Instr.wellFormed (i : Instr) : Bool := i.wellFormedUnder Config.cbBehaviour

end Sys2Proof
end

