-- ==== Sys2Proof/Decode.lean ====
section
/-! DEFINITION. The decoder and the encoder (30_encoding.md). The decoder reads the opcode map of R105,
row by row; the encoder is written from the opcode byte's fields (R95 to R104). -/

namespace Sys2Proof

/-! ## Bytes and words (20_memory.md R67, R68; 10_state.md R22) -/

/-- Bits 15..8 of a word. -/
def hiByte (w : Word) : Byte := w.extractLsb' 8 8

/-- Bits 7..0 of a word. -/
def loByte (w : Word) : Byte := w.extractLsb' 0 8

/-- The word `hi:lo` (00_scope.md R12). -/
def joinBytes (hi lo : Byte) : Word := hi ++ lo

/-! ## The opcode map -/

/-- What an opcode byte stands for: an instruction, or one that waits for its operand (R90: formats F1,
F2, F3). -/
inductive OpcodeForm where
  /-- F1: the opcode alone. -/
  | alone (i : Instr)
  /-- F2: one operand byte follows. -/
  | withByte (k : Byte → Instr)
  /-- F3: two operand bytes follow, low byte first. -/
  | withWord (k : Word → Instr)

/-- How many bytes an instruction of a form has (R90). -/
def OpcodeForm.length : OpcodeForm → Nat
  | .alone _ => 1
  | .withByte _ => 2
  | .withWord _ => 3

/-- Row 0x0x of the opcode map (R105). -/
def opcodeRow0 : Vector OpcodeForm 16 :=
  #v[.alone .nop, .withWord .lxiB, .alone .staxB, .alone .inxB,
     .alone .inrB, .alone .dcrB, .withByte .mviB, .alone .rlc,
     .alone .nop08, .alone .dadB, .alone .ldaxB, .alone .dcxB,
     .alone .inrC, .alone .dcrC, .withByte .mviC, .alone .rrc]

/-- Row 0x1x of the opcode map (R105). -/
def opcodeRow1 : Vector OpcodeForm 16 :=
  #v[.alone .nop10, .withWord .lxiD, .alone .staxD, .alone .inxD,
     .alone .inrD, .alone .dcrD, .withByte .mviD, .alone .ral,
     .alone .nop18, .alone .dadD, .alone .ldaxD, .alone .dcxD,
     .alone .inrE, .alone .dcrE, .withByte .mviE, .alone .rar]

/-- Row 0x2x of the opcode map (R105). -/
def opcodeRow2 : Vector OpcodeForm 16 :=
  #v[.alone .nop20, .withWord .lxiH, .withWord .shld, .alone .inxH,
     .alone .inrH, .alone .dcrH, .withByte .mviH, .alone .daa,
     .alone .nop28, .alone .dadH, .withWord .lhld, .alone .dcxH,
     .alone .inrL, .alone .dcrL, .withByte .mviL, .alone .cma]

/-- Row 0x3x of the opcode map (R105). -/
def opcodeRow3 : Vector OpcodeForm 16 :=
  #v[.alone .nop30, .withWord .lxiSP, .withWord .sta, .alone .inxSP,
     .alone .inrM, .alone .dcrM, .withByte .mviM, .alone .stc,
     .alone .nop38, .alone .dadSP, .withWord .lda, .alone .dcxSP,
     .alone .inrA, .alone .dcrA, .withByte .mviA, .alone .cmc]

/-- Row 0x4x of the opcode map (R105). -/
def opcodeRow4 : Vector OpcodeForm 16 :=
  #v[.alone .movBB, .alone .movBC, .alone .movBD, .alone .movBE,
     .alone .movBH, .alone .movBL, .alone .movBM, .alone .movBA,
     .alone .movCB, .alone .movCC, .alone .movCD, .alone .movCE,
     .alone .movCH, .alone .movCL, .alone .movCM, .alone .movCA]

/-- Row 0x5x of the opcode map (R105). -/
def opcodeRow5 : Vector OpcodeForm 16 :=
  #v[.alone .movDB, .alone .movDC, .alone .movDD, .alone .movDE,
     .alone .movDH, .alone .movDL, .alone .movDM, .alone .movDA,
     .alone .movEB, .alone .movEC, .alone .movED, .alone .movEE,
     .alone .movEH, .alone .movEL, .alone .movEM, .alone .movEA]

/-- Row 0x6x of the opcode map (R105). -/
def opcodeRow6 : Vector OpcodeForm 16 :=
  #v[.alone .movHB, .alone .movHC, .alone .movHD, .alone .movHE,
     .alone .movHH, .alone .movHL, .alone .movHM, .alone .movHA,
     .alone .movLB, .alone .movLC, .alone .movLD, .alone .movLE,
     .alone .movLH, .alone .movLL, .alone .movLM, .alone .movLA]

/-- Row 0x7x of the opcode map (R105). -/
def opcodeRow7 : Vector OpcodeForm 16 :=
  #v[.alone .movMB, .alone .movMC, .alone .movMD, .alone .movME,
     .alone .movMH, .alone .movML, .alone .hlt, .alone .movMA,
     .alone .movAB, .alone .movAC, .alone .movAD, .alone .movAE,
     .alone .movAH, .alone .movAL, .alone .movAM, .alone .movAA]

/-- Row 0x8x of the opcode map (R105). -/
def opcodeRow8 : Vector OpcodeForm 16 :=
  #v[.alone .addB, .alone .addC, .alone .addD, .alone .addE,
     .alone .addH, .alone .addL, .alone .addM, .alone .addA,
     .alone .adcB, .alone .adcC, .alone .adcD, .alone .adcE,
     .alone .adcH, .alone .adcL, .alone .adcM, .alone .adcA]

/-- Row 0x9x of the opcode map (R105). -/
def opcodeRow9 : Vector OpcodeForm 16 :=
  #v[.alone .subB, .alone .subC, .alone .subD, .alone .subE,
     .alone .subH, .alone .subL, .alone .subM, .alone .subA,
     .alone .sbbB, .alone .sbbC, .alone .sbbD, .alone .sbbE,
     .alone .sbbH, .alone .sbbL, .alone .sbbM, .alone .sbbA]

/-- Row 0xAx of the opcode map (R105). -/
def opcodeRowA : Vector OpcodeForm 16 :=
  #v[.alone .anaB, .alone .anaC, .alone .anaD, .alone .anaE,
     .alone .anaH, .alone .anaL, .alone .anaM, .alone .anaA,
     .alone .xraB, .alone .xraC, .alone .xraD, .alone .xraE,
     .alone .xraH, .alone .xraL, .alone .xraM, .alone .xraA]

/-- Row 0xBx of the opcode map (R105). -/
def opcodeRowB : Vector OpcodeForm 16 :=
  #v[.alone .oraB, .alone .oraC, .alone .oraD, .alone .oraE,
     .alone .oraH, .alone .oraL, .alone .oraM, .alone .oraA,
     .alone .cmpB, .alone .cmpC, .alone .cmpD, .alone .cmpE,
     .alone .cmpH, .alone .cmpL, .alone .cmpM, .alone .cmpA]

/-- Row 0xCx of the opcode map (R105). -/
def opcodeRowC : Vector OpcodeForm 16 :=
  #v[.alone .rnz, .alone .popB, .withWord .jnz, .withWord .jmp,
     .withWord .cnz, .alone .pushB, .withByte .adi, .alone .rst0,
     .alone .rz, .alone .ret, .withWord .jz, .withWord .jmpCB,
     .withWord .cz, .withWord .call, .withByte .aci, .alone .rst1]

/-- Row 0xDx of the opcode map (R105). -/
def opcodeRowD : Vector OpcodeForm 16 :=
  #v[.alone .rnc, .alone .popD, .withWord .jnc, .withByte .outp,
     .withWord .cnc, .alone .pushD, .withByte .sui, .alone .rst2,
     .alone .rc, .alone .retD9, .withWord .jc, .withByte .inp,
     .withWord .cc, .withWord .callDD, .withByte .sbi, .alone .rst3]

/-- Row 0xEx of the opcode map (R105). -/
def opcodeRowE : Vector OpcodeForm 16 :=
  #v[.alone .rpo, .alone .popH, .withWord .jpo, .alone .xthl,
     .withWord .cpo, .alone .pushH, .withByte .ani, .alone .rst4,
     .alone .rpe, .alone .pchl, .withWord .jpe, .alone .xchg,
     .withWord .cpe, .withWord .callED, .withByte .xri, .alone .rst5]

/-- Row 0xFx of the opcode map (R105). -/
def opcodeRowF : Vector OpcodeForm 16 :=
  #v[.alone .rp, .alone .popPSW, .withWord .jp, .alone .di,
     .withWord .cp, .alone .pushPSW, .withByte .ori, .alone .rst6,
     .alone .rm, .alone .sphl, .withWord .jm, .alone .ei,
     .withWord .cm, .withWord .callFD, .withByte .cpi, .alone .rst7]

/-- The opcode map, row = high nibble, column = low nibble (R105). -/
def opcodeMap : Vector (Vector OpcodeForm 16) 16 :=
  #v[opcodeRow0, opcodeRow1, opcodeRow2, opcodeRow3, opcodeRow4, opcodeRow5, opcodeRow6, opcodeRow7,
     opcodeRow8, opcodeRow9, opcodeRowA, opcodeRowB, opcodeRowC, opcodeRowD, opcodeRowE, opcodeRowF]

/-- The row of the map that an opcode byte selects; total, and from the byte alone (R91, R112). -/
def opcodeForm (op : Byte) : OpcodeForm :=
  (opcodeMap.get ⟨op.toNat / 16, by have := op.isLt; omega⟩).get ⟨op.toNat % 16, by omega⟩

/-! ## The decoder -/

/-- Why a list of bytes holds no whole instruction. Every opcode byte decodes (R91, R110), so the only
reason is that the list ends too early. -/
inductive DecodeError where
  | opcodeMissing
  | operandMissing (op : Byte)
deriving DecidableEq, Repr

/-- What decoding answers: the instruction and the bytes after it, or a rejection by name. -/
inductive Decoded where
  | ok (i : Instr) (rest : List Byte)
  | rejected (e : DecodeError)
deriving DecidableEq, Repr

/-- The instruction at the head of a list of bytes: opcode, then operand bytes, low byte first
(R90 to R93, R105). -/
def decode : List Byte → Decoded
  | [] => .rejected .opcodeMissing
  | op :: rest =>
    match opcodeForm op, rest with
    | .alone i, rest => .ok i rest
    | .withByte k, d :: rest => .ok (k d) rest
    | .withByte _, [] => .rejected (.operandMissing op)
    | .withWord k, lo :: hi :: rest => .ok (k (joinBytes hi lo)) rest
    | .withWord _, _ => .rejected (.operandMissing op)

/-- The bytes of an opcode-table word: bits 7..0 are the first byte, and every bit from `nbits` up
is 0. -/
def tableWordBytes (nbits w : Nat) : List Byte :=
  let v := w % 2 ^ nbits
  [BitVec.ofNat 8 v, BitVec.ofNat 8 (v / 256), BitVec.ofNat 8 (v / 65536)]

/-- The instruction the decoder reads from an opcode-table word. -/
def decodeTableWord (nbits w : Nat) : Option Instr :=
  match decode (tableWordBytes nbits w) with
  | .ok i _ => some i
  | .rejected _ => none

/-! ## Field codes -/

/-- The opcode byte from its three fields `xx`, `ddd`, `sss` (R95). -/
def opcodeOf (xx : BitVec 2) (ddd sss : BitVec 3) : Byte := xx ++ ddd ++ sss

/-- Register codes (R96). -/
def Reg8.code : Reg8 → BitVec 3
  | .b => 0
  | .c => 1
  | .d => 2
  | .e => 3
  | .h => 4
  | .l => 5
  | .a => 7

/-- Operand codes: 6 is `M` (R96). -/
def Operand8.code : Operand8 → BitVec 3
  | .reg r => r.code
  | .m => 6

/-- Pair codes of `LXI`, `DAD`, `INX`, `DCX` (R97). -/
def Rp.code : Rp → BitVec 2
  | .bc => 0
  | .de => 1
  | .hl => 2
  | .sp => 3

/-- Pair codes of `LDAX`, `STAX` (R97). -/
def RpIndirect.code : RpIndirect → BitVec 2
  | .bc => 0
  | .de => 1

/-- Pair codes of `PUSH`, `POP` (R98). -/
def Rpq.code : Rpq → BitVec 2
  | .bc => 0
  | .de => 1
  | .hl => 2
  | .psw => 3

/-- Condition codes (R99). -/
def Cond.code : Cond → BitVec 3
  | .nz => 0
  | .z => 1
  | .nc => 2
  | .c => 3
  | .po => 4
  | .pe => 5
  | .p => 6
  | .m => 7

/-- Accumulator operation codes (R103). -/
def AccOp.code : AccOp → BitVec 3
  | .add => 0
  | .adc => 1
  | .sub => 2
  | .sbb => 3
  | .ana => 4
  | .xra => 5
  | .ora => 6
  | .cmp => 7

/-- `ddd` read as `pp q` (R95). -/
def pairField (pp : BitVec 2) (q : BitVec 1) : BitVec 3 := pp ++ q

/-! ## The encoder -/

/-- The operand bytes of a 16-bit operand, low byte first (R93). -/
def wordBytes (w : Word) : List Byte := [loByte w, hiByte w]

/-- The opcode byte of an instruction, from its fields (R101 to R104). -/
def Instr.opcode : Instr → Byte
  | .nop => opcodeOf 0 0 0
  | .lxiB _ => opcodeOf 0 (pairField (Rp.code .bc) 0) 1
  | .staxB => opcodeOf 0 (pairField (RpIndirect.code .bc) 0) 2
  | .inxB => opcodeOf 0 (pairField (Rp.code .bc) 0) 3
  | .inrB => opcodeOf 0 (Operand8.code (.reg .b)) 4
  | .dcrB => opcodeOf 0 (Operand8.code (.reg .b)) 5
  | .mviB _ => opcodeOf 0 (Operand8.code (.reg .b)) 6
  | .rlc => opcodeOf 0 0 7
  | .nop08 => opcodeOf 0 1 0
  | .dadB => opcodeOf 0 (pairField (Rp.code .bc) 1) 1
  | .ldaxB => opcodeOf 0 (pairField (RpIndirect.code .bc) 1) 2
  | .dcxB => opcodeOf 0 (pairField (Rp.code .bc) 1) 3
  | .inrC => opcodeOf 0 (Operand8.code (.reg .c)) 4
  | .dcrC => opcodeOf 0 (Operand8.code (.reg .c)) 5
  | .mviC _ => opcodeOf 0 (Operand8.code (.reg .c)) 6
  | .rrc => opcodeOf 0 1 7
  | .nop10 => opcodeOf 0 2 0
  | .lxiD _ => opcodeOf 0 (pairField (Rp.code .de) 0) 1
  | .staxD => opcodeOf 0 (pairField (RpIndirect.code .de) 0) 2
  | .inxD => opcodeOf 0 (pairField (Rp.code .de) 0) 3
  | .inrD => opcodeOf 0 (Operand8.code (.reg .d)) 4
  | .dcrD => opcodeOf 0 (Operand8.code (.reg .d)) 5
  | .mviD _ => opcodeOf 0 (Operand8.code (.reg .d)) 6
  | .ral => opcodeOf 0 2 7
  | .nop18 => opcodeOf 0 3 0
  | .dadD => opcodeOf 0 (pairField (Rp.code .de) 1) 1
  | .ldaxD => opcodeOf 0 (pairField (RpIndirect.code .de) 1) 2
  | .dcxD => opcodeOf 0 (pairField (Rp.code .de) 1) 3
  | .inrE => opcodeOf 0 (Operand8.code (.reg .e)) 4
  | .dcrE => opcodeOf 0 (Operand8.code (.reg .e)) 5
  | .mviE _ => opcodeOf 0 (Operand8.code (.reg .e)) 6
  | .rar => opcodeOf 0 3 7
  | .nop20 => opcodeOf 0 4 0
  | .lxiH _ => opcodeOf 0 (pairField (Rp.code .hl) 0) 1
  | .shld _ => opcodeOf 0 4 2
  | .inxH => opcodeOf 0 (pairField (Rp.code .hl) 0) 3
  | .inrH => opcodeOf 0 (Operand8.code (.reg .h)) 4
  | .dcrH => opcodeOf 0 (Operand8.code (.reg .h)) 5
  | .mviH _ => opcodeOf 0 (Operand8.code (.reg .h)) 6
  | .daa => opcodeOf 0 4 7
  | .nop28 => opcodeOf 0 5 0
  | .dadH => opcodeOf 0 (pairField (Rp.code .hl) 1) 1
  | .lhld _ => opcodeOf 0 5 2
  | .dcxH => opcodeOf 0 (pairField (Rp.code .hl) 1) 3
  | .inrL => opcodeOf 0 (Operand8.code (.reg .l)) 4
  | .dcrL => opcodeOf 0 (Operand8.code (.reg .l)) 5
  | .mviL _ => opcodeOf 0 (Operand8.code (.reg .l)) 6
  | .cma => opcodeOf 0 5 7
  | .nop30 => opcodeOf 0 6 0
  | .lxiSP _ => opcodeOf 0 (pairField (Rp.code .sp) 0) 1
  | .sta _ => opcodeOf 0 6 2
  | .inxSP => opcodeOf 0 (pairField (Rp.code .sp) 0) 3
  | .inrM => opcodeOf 0 (Operand8.code .m) 4
  | .dcrM => opcodeOf 0 (Operand8.code .m) 5
  | .mviM _ => opcodeOf 0 (Operand8.code .m) 6
  | .stc => opcodeOf 0 6 7
  | .nop38 => opcodeOf 0 7 0
  | .dadSP => opcodeOf 0 (pairField (Rp.code .sp) 1) 1
  | .lda _ => opcodeOf 0 7 2
  | .dcxSP => opcodeOf 0 (pairField (Rp.code .sp) 1) 3
  | .inrA => opcodeOf 0 (Operand8.code (.reg .a)) 4
  | .dcrA => opcodeOf 0 (Operand8.code (.reg .a)) 5
  | .mviA _ => opcodeOf 0 (Operand8.code (.reg .a)) 6
  | .cmc => opcodeOf 0 7 7
  | .movBB => opcodeOf 1 (Operand8.code (.reg .b)) (Operand8.code (.reg .b))
  | .movBC => opcodeOf 1 (Operand8.code (.reg .b)) (Operand8.code (.reg .c))
  | .movBD => opcodeOf 1 (Operand8.code (.reg .b)) (Operand8.code (.reg .d))
  | .movBE => opcodeOf 1 (Operand8.code (.reg .b)) (Operand8.code (.reg .e))
  | .movBH => opcodeOf 1 (Operand8.code (.reg .b)) (Operand8.code (.reg .h))
  | .movBL => opcodeOf 1 (Operand8.code (.reg .b)) (Operand8.code (.reg .l))
  | .movBM => opcodeOf 1 (Operand8.code (.reg .b)) (Operand8.code .m)
  | .movBA => opcodeOf 1 (Operand8.code (.reg .b)) (Operand8.code (.reg .a))
  | .movCB => opcodeOf 1 (Operand8.code (.reg .c)) (Operand8.code (.reg .b))
  | .movCC => opcodeOf 1 (Operand8.code (.reg .c)) (Operand8.code (.reg .c))
  | .movCD => opcodeOf 1 (Operand8.code (.reg .c)) (Operand8.code (.reg .d))
  | .movCE => opcodeOf 1 (Operand8.code (.reg .c)) (Operand8.code (.reg .e))
  | .movCH => opcodeOf 1 (Operand8.code (.reg .c)) (Operand8.code (.reg .h))
  | .movCL => opcodeOf 1 (Operand8.code (.reg .c)) (Operand8.code (.reg .l))
  | .movCM => opcodeOf 1 (Operand8.code (.reg .c)) (Operand8.code .m)
  | .movCA => opcodeOf 1 (Operand8.code (.reg .c)) (Operand8.code (.reg .a))
  | .movDB => opcodeOf 1 (Operand8.code (.reg .d)) (Operand8.code (.reg .b))
  | .movDC => opcodeOf 1 (Operand8.code (.reg .d)) (Operand8.code (.reg .c))
  | .movDD => opcodeOf 1 (Operand8.code (.reg .d)) (Operand8.code (.reg .d))
  | .movDE => opcodeOf 1 (Operand8.code (.reg .d)) (Operand8.code (.reg .e))
  | .movDH => opcodeOf 1 (Operand8.code (.reg .d)) (Operand8.code (.reg .h))
  | .movDL => opcodeOf 1 (Operand8.code (.reg .d)) (Operand8.code (.reg .l))
  | .movDM => opcodeOf 1 (Operand8.code (.reg .d)) (Operand8.code .m)
  | .movDA => opcodeOf 1 (Operand8.code (.reg .d)) (Operand8.code (.reg .a))
  | .movEB => opcodeOf 1 (Operand8.code (.reg .e)) (Operand8.code (.reg .b))
  | .movEC => opcodeOf 1 (Operand8.code (.reg .e)) (Operand8.code (.reg .c))
  | .movED => opcodeOf 1 (Operand8.code (.reg .e)) (Operand8.code (.reg .d))
  | .movEE => opcodeOf 1 (Operand8.code (.reg .e)) (Operand8.code (.reg .e))
  | .movEH => opcodeOf 1 (Operand8.code (.reg .e)) (Operand8.code (.reg .h))
  | .movEL => opcodeOf 1 (Operand8.code (.reg .e)) (Operand8.code (.reg .l))
  | .movEM => opcodeOf 1 (Operand8.code (.reg .e)) (Operand8.code .m)
  | .movEA => opcodeOf 1 (Operand8.code (.reg .e)) (Operand8.code (.reg .a))
  | .movHB => opcodeOf 1 (Operand8.code (.reg .h)) (Operand8.code (.reg .b))
  | .movHC => opcodeOf 1 (Operand8.code (.reg .h)) (Operand8.code (.reg .c))
  | .movHD => opcodeOf 1 (Operand8.code (.reg .h)) (Operand8.code (.reg .d))
  | .movHE => opcodeOf 1 (Operand8.code (.reg .h)) (Operand8.code (.reg .e))
  | .movHH => opcodeOf 1 (Operand8.code (.reg .h)) (Operand8.code (.reg .h))
  | .movHL => opcodeOf 1 (Operand8.code (.reg .h)) (Operand8.code (.reg .l))
  | .movHM => opcodeOf 1 (Operand8.code (.reg .h)) (Operand8.code .m)
  | .movHA => opcodeOf 1 (Operand8.code (.reg .h)) (Operand8.code (.reg .a))
  | .movLB => opcodeOf 1 (Operand8.code (.reg .l)) (Operand8.code (.reg .b))
  | .movLC => opcodeOf 1 (Operand8.code (.reg .l)) (Operand8.code (.reg .c))
  | .movLD => opcodeOf 1 (Operand8.code (.reg .l)) (Operand8.code (.reg .d))
  | .movLE => opcodeOf 1 (Operand8.code (.reg .l)) (Operand8.code (.reg .e))
  | .movLH => opcodeOf 1 (Operand8.code (.reg .l)) (Operand8.code (.reg .h))
  | .movLL => opcodeOf 1 (Operand8.code (.reg .l)) (Operand8.code (.reg .l))
  | .movLM => opcodeOf 1 (Operand8.code (.reg .l)) (Operand8.code .m)
  | .movLA => opcodeOf 1 (Operand8.code (.reg .l)) (Operand8.code (.reg .a))
  | .movMB => opcodeOf 1 (Operand8.code .m) (Operand8.code (.reg .b))
  | .movMC => opcodeOf 1 (Operand8.code .m) (Operand8.code (.reg .c))
  | .movMD => opcodeOf 1 (Operand8.code .m) (Operand8.code (.reg .d))
  | .movME => opcodeOf 1 (Operand8.code .m) (Operand8.code (.reg .e))
  | .movMH => opcodeOf 1 (Operand8.code .m) (Operand8.code (.reg .h))
  | .movML => opcodeOf 1 (Operand8.code .m) (Operand8.code (.reg .l))
  | .hlt => opcodeOf 1 6 6
  | .movMA => opcodeOf 1 (Operand8.code .m) (Operand8.code (.reg .a))
  | .movAB => opcodeOf 1 (Operand8.code (.reg .a)) (Operand8.code (.reg .b))
  | .movAC => opcodeOf 1 (Operand8.code (.reg .a)) (Operand8.code (.reg .c))
  | .movAD => opcodeOf 1 (Operand8.code (.reg .a)) (Operand8.code (.reg .d))
  | .movAE => opcodeOf 1 (Operand8.code (.reg .a)) (Operand8.code (.reg .e))
  | .movAH => opcodeOf 1 (Operand8.code (.reg .a)) (Operand8.code (.reg .h))
  | .movAL => opcodeOf 1 (Operand8.code (.reg .a)) (Operand8.code (.reg .l))
  | .movAM => opcodeOf 1 (Operand8.code (.reg .a)) (Operand8.code .m)
  | .movAA => opcodeOf 1 (Operand8.code (.reg .a)) (Operand8.code (.reg .a))
  | .addB => opcodeOf 2 (AccOp.code .add) (Operand8.code (.reg .b))
  | .addC => opcodeOf 2 (AccOp.code .add) (Operand8.code (.reg .c))
  | .addD => opcodeOf 2 (AccOp.code .add) (Operand8.code (.reg .d))
  | .addE => opcodeOf 2 (AccOp.code .add) (Operand8.code (.reg .e))
  | .addH => opcodeOf 2 (AccOp.code .add) (Operand8.code (.reg .h))
  | .addL => opcodeOf 2 (AccOp.code .add) (Operand8.code (.reg .l))
  | .addM => opcodeOf 2 (AccOp.code .add) (Operand8.code .m)
  | .addA => opcodeOf 2 (AccOp.code .add) (Operand8.code (.reg .a))
  | .adcB => opcodeOf 2 (AccOp.code .adc) (Operand8.code (.reg .b))
  | .adcC => opcodeOf 2 (AccOp.code .adc) (Operand8.code (.reg .c))
  | .adcD => opcodeOf 2 (AccOp.code .adc) (Operand8.code (.reg .d))
  | .adcE => opcodeOf 2 (AccOp.code .adc) (Operand8.code (.reg .e))
  | .adcH => opcodeOf 2 (AccOp.code .adc) (Operand8.code (.reg .h))
  | .adcL => opcodeOf 2 (AccOp.code .adc) (Operand8.code (.reg .l))
  | .adcM => opcodeOf 2 (AccOp.code .adc) (Operand8.code .m)
  | .adcA => opcodeOf 2 (AccOp.code .adc) (Operand8.code (.reg .a))
  | .subB => opcodeOf 2 (AccOp.code .sub) (Operand8.code (.reg .b))
  | .subC => opcodeOf 2 (AccOp.code .sub) (Operand8.code (.reg .c))
  | .subD => opcodeOf 2 (AccOp.code .sub) (Operand8.code (.reg .d))
  | .subE => opcodeOf 2 (AccOp.code .sub) (Operand8.code (.reg .e))
  | .subH => opcodeOf 2 (AccOp.code .sub) (Operand8.code (.reg .h))
  | .subL => opcodeOf 2 (AccOp.code .sub) (Operand8.code (.reg .l))
  | .subM => opcodeOf 2 (AccOp.code .sub) (Operand8.code .m)
  | .subA => opcodeOf 2 (AccOp.code .sub) (Operand8.code (.reg .a))
  | .sbbB => opcodeOf 2 (AccOp.code .sbb) (Operand8.code (.reg .b))
  | .sbbC => opcodeOf 2 (AccOp.code .sbb) (Operand8.code (.reg .c))
  | .sbbD => opcodeOf 2 (AccOp.code .sbb) (Operand8.code (.reg .d))
  | .sbbE => opcodeOf 2 (AccOp.code .sbb) (Operand8.code (.reg .e))
  | .sbbH => opcodeOf 2 (AccOp.code .sbb) (Operand8.code (.reg .h))
  | .sbbL => opcodeOf 2 (AccOp.code .sbb) (Operand8.code (.reg .l))
  | .sbbM => opcodeOf 2 (AccOp.code .sbb) (Operand8.code .m)
  | .sbbA => opcodeOf 2 (AccOp.code .sbb) (Operand8.code (.reg .a))
  | .anaB => opcodeOf 2 (AccOp.code .ana) (Operand8.code (.reg .b))
  | .anaC => opcodeOf 2 (AccOp.code .ana) (Operand8.code (.reg .c))
  | .anaD => opcodeOf 2 (AccOp.code .ana) (Operand8.code (.reg .d))
  | .anaE => opcodeOf 2 (AccOp.code .ana) (Operand8.code (.reg .e))
  | .anaH => opcodeOf 2 (AccOp.code .ana) (Operand8.code (.reg .h))
  | .anaL => opcodeOf 2 (AccOp.code .ana) (Operand8.code (.reg .l))
  | .anaM => opcodeOf 2 (AccOp.code .ana) (Operand8.code .m)
  | .anaA => opcodeOf 2 (AccOp.code .ana) (Operand8.code (.reg .a))
  | .xraB => opcodeOf 2 (AccOp.code .xra) (Operand8.code (.reg .b))
  | .xraC => opcodeOf 2 (AccOp.code .xra) (Operand8.code (.reg .c))
  | .xraD => opcodeOf 2 (AccOp.code .xra) (Operand8.code (.reg .d))
  | .xraE => opcodeOf 2 (AccOp.code .xra) (Operand8.code (.reg .e))
  | .xraH => opcodeOf 2 (AccOp.code .xra) (Operand8.code (.reg .h))
  | .xraL => opcodeOf 2 (AccOp.code .xra) (Operand8.code (.reg .l))
  | .xraM => opcodeOf 2 (AccOp.code .xra) (Operand8.code .m)
  | .xraA => opcodeOf 2 (AccOp.code .xra) (Operand8.code (.reg .a))
  | .oraB => opcodeOf 2 (AccOp.code .ora) (Operand8.code (.reg .b))
  | .oraC => opcodeOf 2 (AccOp.code .ora) (Operand8.code (.reg .c))
  | .oraD => opcodeOf 2 (AccOp.code .ora) (Operand8.code (.reg .d))
  | .oraE => opcodeOf 2 (AccOp.code .ora) (Operand8.code (.reg .e))
  | .oraH => opcodeOf 2 (AccOp.code .ora) (Operand8.code (.reg .h))
  | .oraL => opcodeOf 2 (AccOp.code .ora) (Operand8.code (.reg .l))
  | .oraM => opcodeOf 2 (AccOp.code .ora) (Operand8.code .m)
  | .oraA => opcodeOf 2 (AccOp.code .ora) (Operand8.code (.reg .a))
  | .cmpB => opcodeOf 2 (AccOp.code .cmp) (Operand8.code (.reg .b))
  | .cmpC => opcodeOf 2 (AccOp.code .cmp) (Operand8.code (.reg .c))
  | .cmpD => opcodeOf 2 (AccOp.code .cmp) (Operand8.code (.reg .d))
  | .cmpE => opcodeOf 2 (AccOp.code .cmp) (Operand8.code (.reg .e))
  | .cmpH => opcodeOf 2 (AccOp.code .cmp) (Operand8.code (.reg .h))
  | .cmpL => opcodeOf 2 (AccOp.code .cmp) (Operand8.code (.reg .l))
  | .cmpM => opcodeOf 2 (AccOp.code .cmp) (Operand8.code .m)
  | .cmpA => opcodeOf 2 (AccOp.code .cmp) (Operand8.code (.reg .a))
  | .rnz => opcodeOf 3 (Cond.code .nz) 0
  | .popB => opcodeOf 3 (pairField (Rpq.code .bc) 0) 1
  | .jnz _ => opcodeOf 3 (Cond.code .nz) 2
  | .jmp _ => opcodeOf 3 0 3
  | .cnz _ => opcodeOf 3 (Cond.code .nz) 4
  | .pushB => opcodeOf 3 (pairField (Rpq.code .bc) 0) 5
  | .adi _ => opcodeOf 3 (AccOp.code .add) 6
  | .rst0 => opcodeOf 3 0 7
  | .rz => opcodeOf 3 (Cond.code .z) 0
  | .ret => opcodeOf 3 1 1
  | .jz _ => opcodeOf 3 (Cond.code .z) 2
  | .jmpCB _ => opcodeOf 3 1 3
  | .cz _ => opcodeOf 3 (Cond.code .z) 4
  | .call _ => opcodeOf 3 1 5
  | .aci _ => opcodeOf 3 (AccOp.code .adc) 6
  | .rst1 => opcodeOf 3 1 7
  | .rnc => opcodeOf 3 (Cond.code .nc) 0
  | .popD => opcodeOf 3 (pairField (Rpq.code .de) 0) 1
  | .jnc _ => opcodeOf 3 (Cond.code .nc) 2
  | .outp _ => opcodeOf 3 2 3
  | .cnc _ => opcodeOf 3 (Cond.code .nc) 4
  | .pushD => opcodeOf 3 (pairField (Rpq.code .de) 0) 5
  | .sui _ => opcodeOf 3 (AccOp.code .sub) 6
  | .rst2 => opcodeOf 3 2 7
  | .rc => opcodeOf 3 (Cond.code .c) 0
  | .retD9 => opcodeOf 3 3 1
  | .jc _ => opcodeOf 3 (Cond.code .c) 2
  | .inp _ => opcodeOf 3 3 3
  | .cc _ => opcodeOf 3 (Cond.code .c) 4
  | .callDD _ => opcodeOf 3 3 5
  | .sbi _ => opcodeOf 3 (AccOp.code .sbb) 6
  | .rst3 => opcodeOf 3 3 7
  | .rpo => opcodeOf 3 (Cond.code .po) 0
  | .popH => opcodeOf 3 (pairField (Rpq.code .hl) 0) 1
  | .jpo _ => opcodeOf 3 (Cond.code .po) 2
  | .xthl => opcodeOf 3 4 3
  | .cpo _ => opcodeOf 3 (Cond.code .po) 4
  | .pushH => opcodeOf 3 (pairField (Rpq.code .hl) 0) 5
  | .ani _ => opcodeOf 3 (AccOp.code .ana) 6
  | .rst4 => opcodeOf 3 4 7
  | .rpe => opcodeOf 3 (Cond.code .pe) 0
  | .pchl => opcodeOf 3 5 1
  | .jpe _ => opcodeOf 3 (Cond.code .pe) 2
  | .xchg => opcodeOf 3 5 3
  | .cpe _ => opcodeOf 3 (Cond.code .pe) 4
  | .callED _ => opcodeOf 3 5 5
  | .xri _ => opcodeOf 3 (AccOp.code .xra) 6
  | .rst5 => opcodeOf 3 5 7
  | .rp => opcodeOf 3 (Cond.code .p) 0
  | .popPSW => opcodeOf 3 (pairField (Rpq.code .psw) 0) 1
  | .jp _ => opcodeOf 3 (Cond.code .p) 2
  | .di => opcodeOf 3 6 3
  | .cp _ => opcodeOf 3 (Cond.code .p) 4
  | .pushPSW => opcodeOf 3 (pairField (Rpq.code .psw) 0) 5
  | .ori _ => opcodeOf 3 (AccOp.code .ora) 6
  | .rst6 => opcodeOf 3 6 7
  | .rm => opcodeOf 3 (Cond.code .m) 0
  | .sphl => opcodeOf 3 7 1
  | .jm _ => opcodeOf 3 (Cond.code .m) 2
  | .ei => opcodeOf 3 7 3
  | .cm _ => opcodeOf 3 (Cond.code .m) 4
  | .callFD _ => opcodeOf 3 7 5
  | .cpi _ => opcodeOf 3 (AccOp.code .cmp) 6
  | .rst7 => opcodeOf 3 7 7

/-- The operand bytes of an instruction: one for format F2, two with the low byte first for format F3,
none for format F1 (R90, R93). -/
def Instr.operandBytes : Instr → List Byte
  | .lxiB d16 => wordBytes d16
  | .lxiD d16 => wordBytes d16
  | .lxiH d16 => wordBytes d16
  | .shld a16 => wordBytes a16
  | .lhld a16 => wordBytes a16
  | .lxiSP d16 => wordBytes d16
  | .sta a16 => wordBytes a16
  | .lda a16 => wordBytes a16
  | .jnz a16 => wordBytes a16
  | .jmp a16 => wordBytes a16
  | .cnz a16 => wordBytes a16
  | .jz a16 => wordBytes a16
  | .jmpCB a16 => wordBytes a16
  | .cz a16 => wordBytes a16
  | .call a16 => wordBytes a16
  | .jnc a16 => wordBytes a16
  | .cnc a16 => wordBytes a16
  | .jc a16 => wordBytes a16
  | .cc a16 => wordBytes a16
  | .callDD a16 => wordBytes a16
  | .jpo a16 => wordBytes a16
  | .cpo a16 => wordBytes a16
  | .jpe a16 => wordBytes a16
  | .cpe a16 => wordBytes a16
  | .callED a16 => wordBytes a16
  | .jp a16 => wordBytes a16
  | .cp a16 => wordBytes a16
  | .jm a16 => wordBytes a16
  | .cm a16 => wordBytes a16
  | .callFD a16 => wordBytes a16
  | .mviB d8 => [d8]
  | .mviC d8 => [d8]
  | .mviD d8 => [d8]
  | .mviE d8 => [d8]
  | .mviH d8 => [d8]
  | .mviL d8 => [d8]
  | .mviM d8 => [d8]
  | .mviA d8 => [d8]
  | .adi d8 => [d8]
  | .aci d8 => [d8]
  | .outp p8 => [p8]
  | .sui d8 => [d8]
  | .inp p8 => [p8]
  | .sbi d8 => [d8]
  | .ani d8 => [d8]
  | .xri d8 => [d8]
  | .ori d8 => [d8]
  | .cpi d8 => [d8]
  | _ => []

/-- The bytes of an instruction (R90). -/
def encode (i : Instr) : List Byte := i.opcode :: i.operandBytes

/-- The length of an instruction in bytes (R90, R111). -/
def Instr.length (i : Instr) : Nat := (encode i).length

end Sys2Proof
end

