-- ==== Sys2Proof/Machine/State.lean ====
section
/-! DEFINITION. The architectural state (10_state.md R20 to R45), the reasons a step can stop, and the
state after reset (R49 to R57). Plain data throughout. -/

namespace Sys2Proof.Machine

/-- The seven 8-bit general registers (10_state.md R20, R21). -/
structure RegFile where
  a : Byte
  b : Byte
  c : Byte
  d : Byte
  e : Byte
  h : Byte
  l : Byte
deriving DecidableEq, Repr

/-- The flag register `F`, bit 7 first (10_state.md R27): five condition flags and the three bits 1, 3
and 5, which are kept because `PUSH PSW` stores them (R33). Log entry 12. -/
structure Flags where
  s  : Bool
  z  : Bool
  b5 : Bool
  ac : Bool
  b3 : Bool
  p  : Bool
  b1 : Bool
  cy : Bool
deriving DecidableEq, Repr

/-- One recorded port access (20_memory.md R77, R78). -/
inductive PortEvent where
  /-- `PortIn(port)` was called and answered `value`. -/
  | inp (port value : Byte)
  /-- `PortOut(port, value)` was called. -/
  | out (port value : Byte)
deriving DecidableEq, Repr

/-- The memory as address and byte pairs, addresses strictly rising, no entry equal to what an
unlisted address reads as (`Memory.wf` in Machine/Ops.lean). -/
abbrev Memory := List Host.Cell

/-- Everything the spec gives the machine (10_state.md R20), the port events it says a model records
(20_memory.md R77, R78), and the model's own draw counter. -/
structure State where
  /-- `A`, `B`, `C`, `D`, `E`, `H`, `L` (R21). -/
  regs : RegFile
  /-- `F` (R27). -/
  flags : Flags
  /-- `SP` (R37). -/
  sp : Word
  /-- `PC` (R38). -/
  pc : Word
  /-- `INTE` (R40). -/
  inte : Bool
  /-- `HALTED` (R41). -/
  halted : Bool
  /-- `INT_PENDING` (R42). -/
  intPending : Bool
  /-- `INT_VECTOR` (R43). -/
  intVector : Byte
  /-- The 65536-byte memory (20_memory.md R60). -/
  mem : Memory
  /-- The port accesses made so far, oldest first (20_memory.md R77, R78). -/
  portEvents : List PortEvent
  /-- The model's own: how many unconstrained values have been drawn (log entry 6). -/
  draws : Nat
deriving DecidableEq, Repr

/-- The reasons a step stops with a fault. There are none: "The hardware raises no synchronous
exception of any kind. The set of exception causes is empty" (60_exceptions.md R320). Safe: no claim
about a fault can be made. Log entry 23. -/
inductive Fault where
deriving DecidableEq, Repr

/-- The reasons a step is refused. -/
inductive Refusal where
  /-- Raised by an arm of `exec` whose instruction has no meaning yet. Safe: the run stops. -/
  | notModelled (mnemonic : String)
  /-- Raised by the meaning of opcode 0xCB when `CB_BEHAVIOUR = refuse` (30_encoding.md R109,
  46_control_transfer.md R281); the default value never raises it. Safe: the run stops. -/
  | opcodeCBRefused
deriving DecidableEq, Repr

/-- What one step or one instruction answers. -/
abbrev Result := Host.Outcome State Fault Refusal

/-- The contents reset leaves unspecified (10_state.md R50 to R52, R55, R56; 00_scope.md R11): a free
per-run input. -/
structure ResetDraws where
  regs : RegFile
  /-- Bit 1 of this value is not used: reset forces it (R51). -/
  flags : Flags
  sp : Word
  /-- Used only while `RESET_PC` is absent (R52). -/
  pc : Word
  intVector : Byte
  /-- What the host put in memory (R56). -/
  mem : Memory
  /-- The model's own counter. -/
  draws : Nat
deriving DecidableEq, Repr

/-- The state after construction, for given unspecified contents (10_state.md R49 to R57): `F` bit 1 is
1, `INTE` is 1, `HALTED` and `INT_PENDING` are 0, `PC` is `RESET_PC` where that is present. -/
def State.resetWith (d : ResetDraws) : State :=
  { regs := d.regs
    flags := { d.flags with b1 := true }
    sp := d.sp
    pc := Config.resetPc.getD d.pc
    inte := true
    halted := false
    intPending := false
    intVector := d.intVector
    mem := d.mem
    portEvents := []
    draws := d.draws }

/-- The one choice of the unspecified contents that `State.reset` names: zero everywhere.
DESIGN CHOICE, unsafe: the spec gives none of these values (log entries 1, 2, 4, 6). -/
def ResetDraws.zero : ResetDraws :=
  { regs := { a := 0, b := 0, c := 0, d := 0, e := 0, h := 0, l := 0 }
    flags := { s := false, z := false, b5 := false, ac := false, b3 := false, p := false,
               b1 := false, cy := false }
    sp := 0
    pc := 0
    intVector := 0
    mem := []
    draws := 0 }

/-- The machine right after reset, with the values of the log for what the spec leaves open. -/
def State.reset : State := State.resetWith ResetDraws.zero

end Sys2Proof.Machine
end

