-- ==== Sys2Proof/Machine/Ops.lean ====
section
/-! DEFINITION. The named operations: memory (20_memory.md), fetch (30_encoding.md R92, R93), stack
(47_stack.md R290, R291), ports (20_memory.md R77, R78), draws (00_scope.md R11), and taking an
interrupt (60_exceptions.md R323, R327). -/

namespace Sys2Proof.Machine

/-! ## Memory -/

/-- What a byte that nothing has written reads as. DESIGN CHOICE, unsafe: the spec leaves it
unspecified (10_state.md R56, R57). Log entry 4. -/
def Memory.unlisted : Byte := 0

/-- The canonical form: addresses strictly rising and below 65536, no entry equal to the byte an
unlisted address reads as. -/
abbrev Memory.wf (m : Memory) : Prop :=
  m.Pairwise (fun x y => x.1 < y.1) ∧ ∀ c ∈ m, c.1 < 65536 ∧ c.2 ≠ Memory.unlisted

/-- The byte at an address. -/
def Memory.lookup : Memory → Nat → Byte
  | [], _ => Memory.unlisted
  | (k, v) :: m, n => if n = k then v else Memory.lookup m n

/-- The memory without an address. -/
def Memory.erase (m : Memory) (n : Nat) : Memory := m.filter fun c => c.1 != n

/-- A cell put before the first one with a higher address. -/
def Memory.insert : Memory → Host.Cell → Memory
  | [], x => [x]
  | y :: m, x => if x.1 < y.1 then x :: y :: m else y :: Memory.insert m x

/-- The memory with one byte replaced, in canonical form: writing the byte an unlisted address reads as
removes the entry. -/
def Memory.update (m : Memory) (n : Nat) (v : Byte) : Memory :=
  if v = Memory.unlisted then Memory.erase m n else Memory.insert (Memory.erase m n) (n, v)

/-- `MemRead(addr, 1)` (20_memory.md R62). -/
def State.readByte (s : State) (addr : Word) : Byte := Memory.lookup s.mem addr.toNat

/-- `MemWrite(addr, 1, v)` (20_memory.md R63). -/
def State.writeByte (s : State) (addr : Word) (v : Byte) : State :=
  { s with mem := Memory.update s.mem addr.toNat v }

/-- `MemRead(addr, 2)`: low byte at `addr`, high byte at `addr + 1` modulo 65536 (20_memory.md R64,
R66). -/
def State.readWord (s : State) (addr : Word) : Word :=
  joinBytes (s.readByte (addr + 1)) (s.readByte addr)

/-- `MemWrite(addr, 2, v)`: low byte at `addr`, then high byte at `addr + 1` modulo 65536
(20_memory.md R65, R66). -/
def State.writeWord (s : State) (addr : Word) (v : Word) : State :=
  (s.writeByte addr (loByte v)).writeByte (addr + 1) (hiByte v)

/-! ## Fetch -/

/-- `Fetch8()` (30_encoding.md R92). -/
def State.fetch8 (s : State) : Byte × State := (s.readByte s.pc, { s with pc := s.pc + 1 })

/-- `Fetch16()`: low byte first (30_encoding.md R93). -/
def State.fetch16 (s : State) : Word × State :=
  let (lo, s1) := s.fetch8
  let (hi, s2) := s1.fetch8
  (joinBytes hi lo, s2)

/-! ## Stack -/

/-- `Push16(v)` (47_stack.md R290). -/
def State.push16 (s : State) (v : Word) : State :=
  { s with sp := s.sp - 2 }.writeWord (s.sp - 2) v

/-- `Pop16()` (47_stack.md R291). -/
def State.pop16 (s : State) : Word × State := (s.readWord s.sp, { s with sp := s.sp + 2 })

/-! ## Ports and draws -/

/-- `PortIn(p)`: the host's byte, unconstrained, and the recorded event (20_memory.md R77). -/
def State.portIn (s : State) (p : Byte) : Byte × State :=
  let v := Config.portIn s.draws p
  (v, { s with portEvents := s.portEvents ++ [.inp p v], draws := s.draws + 1 })

/-- `PortOut(p, v)`: the recorded event and no other effect on the block (20_memory.md R78). -/
def State.portOut (s : State) (p v : Byte) : State :=
  { s with portEvents := s.portEvents ++ [.out p v] }

/-- The next `LOGIC_AC`, fresh at every execution (40_alu_microops.md R140). -/
def State.drawLogicAc (s : State) : Bool × State :=
  (Config.logicAc s.draws, { s with draws := s.draws + 1 })

/-! ## Taking an interrupt

The hardware has one exception, the host's interrupt. A request is latched (R323); the next step
services it (R327): `beginService`, then the vector byte is executed without a fetch, then
`endService`. Whatever is saved is saved by the vector opcode (R327, R334); the return from it is an
ordinary `Pop16` of `RET` (R335). -/

/-- `interrupt(v)`: accepted while `INTE = 1`, dropped otherwise (60_exceptions.md R323, R324). -/
def State.interrupt (s : State) (v : Byte) : State :=
  if s.inte then { s with inte := false, intVector := v, intPending := true } else s

/-- The first line of interrupt service: `INTE <- 0` (60_exceptions.md R327). -/
def State.beginService (s : State) : State := { s with inte := false }

/-- The last two lines of interrupt service: `INT_PENDING <- 0; HALTED <- 0`
(60_exceptions.md R327). -/
def State.endService (s : State) : State := { s with intPending := false, halted := false }

/-- The condition `Gate` of the step under `INT_STEP_GATE` (60_exceptions.md R326). -/
def State.gateOpen (s : State) (g : Config.IntStepGate) : Bool :=
  match g with
  | .pendingOnly => true
  | .pendingAndInte => s.inte

end Sys2Proof.Machine
end

