-- ==== Sys2Proof/Machine/Operands.lean ====
section
/-! DEFINITION. Operand forms (30_encoding.md R94): registers by code (R96), pairs and their halves
(10_state.md R22 to R26), the memory operand `M` (00_scope.md R18), and conditions
(46_control_transfer.md R250). -/

namespace Sys2Proof.Machine

/-! ## 8-bit registers -/

/-- `R[c]` read (30_encoding.md R96). -/
def RegFile.get (f : RegFile) : Reg8 → Byte
  | .b => f.b
  | .c => f.c
  | .d => f.d
  | .e => f.e
  | .h => f.h
  | .l => f.l
  | .a => f.a

/-- `R[c]` written (30_encoding.md R96). -/
def RegFile.set (f : RegFile) (r : Reg8) (v : Byte) : RegFile :=
  match r with
  | .b => { f with b := v }
  | .c => { f with c := v }
  | .d => { f with d := v }
  | .e => { f with e := v }
  | .h => { f with h := v }
  | .l => { f with l := v }
  | .a => { f with a := v }

/-- `R[c]` of the state. -/
def State.reg (s : State) (r : Reg8) : Byte := s.regs.get r

/-- `R[c] <- v` (00_scope.md R13). -/
def State.setReg (s : State) (r : Reg8) (v : Byte) : State := { s with regs := s.regs.set r v }

/-! ## 16-bit pairs -/

/-- `BC`, the view `B:C` (10_state.md R22). -/
def State.bc (s : State) : Word := joinBytes s.regs.b s.regs.c

/-- `DE`, the view `D:E` (10_state.md R23). -/
def State.de (s : State) : Word := joinBytes s.regs.d s.regs.e

/-- `HL`, the view `H:L` (10_state.md R24). -/
def State.hl (s : State) : Word := joinBytes s.regs.h s.regs.l

/-- `BC <- v` (10_state.md R22). -/
def State.setBc (s : State) (v : Word) : State :=
  { s with regs := { s.regs with b := hiByte v, c := loByte v } }

/-- `DE <- v` (10_state.md R23). -/
def State.setDe (s : State) (v : Word) : State :=
  { s with regs := { s.regs with d := hiByte v, e := loByte v } }

/-- `HL <- v` (10_state.md R24). -/
def State.setHl (s : State) (v : Word) : State :=
  { s with regs := { s.regs with h := hiByte v, l := loByte v } }

/-- `RP[pp]` (30_encoding.md R97). -/
def State.rp (s : State) : Rp → Word
  | .bc => s.bc
  | .de => s.de
  | .hl => s.hl
  | .sp => s.sp

/-- `RP[pp] <- v` (30_encoding.md R97). -/
def State.setRp (s : State) (p : Rp) (v : Word) : State :=
  match p with
  | .bc => s.setBc v
  | .de => s.setDe v
  | .hl => s.setHl v
  | .sp => { s with sp := v }

/-- The address in the pair of `LDAX` and `STAX` (30_encoding.md R97). -/
def State.rpIndirect (s : State) : RpIndirect → Word
  | .bc => s.bc
  | .de => s.de

/-! ## The memory operand -/

/-- `Operand8(c)`: a register, or the byte at address `HL` (00_scope.md R18). -/
def State.operand8 (s : State) : Operand8 → Byte
  | .reg r => s.reg r
  | .m => s.readByte s.hl

/-- `WriteOperand8(c, v)` (00_scope.md R18). -/
def State.writeOperand8 (s : State) (o : Operand8) (v : Byte) : State :=
  match o with
  | .reg r => s.setReg r v
  | .m => s.writeByte s.hl v

/-! ## Conditions -/

/-- `Cond(ccc)` (46_control_transfer.md R250). -/
def Flags.cond (f : Flags) : Cond → Bool
  | .nz => !f.z
  | .z => f.z
  | .nc => !f.cy
  | .c => f.cy
  | .po => !f.p
  | .pe => f.p
  | .p => !f.s
  | .m => f.s

end Sys2Proof.Machine
end

