-- ==== Sys2Proof/Machine/Flags.lean ====
section
/-! DEFINITION. The flag register as a byte (10_state.md R25, R27, R36; 47_stack.md R295) and the ALU
micro-operations, the flag computation engine (40_alu_microops.md R130 to R151). A micro-operation
takes its operand values and the flags and returns its result with the new flags; what its rule does
not list it leaves alone (R133). -/

namespace Sys2Proof.Machine

/-! ## `F` as a byte -/

/-- `F` as the byte `S Z b5 AC b3 P b1 CY`, bit 7 first (10_state.md R27). -/
def Flags.toByte (f : Flags) : Byte :=
  BitVec.ofNat 8 (f.s.toNat * 128 + f.z.toNat * 64 + f.b5.toNat * 32 + f.ac.toNat * 16
    + f.b3.toNat * 8 + f.p.toNat * 4 + f.b1.toNat * 2 + f.cy.toNat)

/-- All eight bits of `F` from a byte, as they are (10_state.md R27, R46). -/
def Flags.ofByte (v : Byte) : Flags :=
  { s := v.getLsbD 7, z := v.getLsbD 6, b5 := v.getLsbD 5, ac := v.getLsbD 4
    b3 := v.getLsbD 3, p := v.getLsbD 2, b1 := v.getLsbD 1, cy := v.getLsbD 0 }

/-- `F <- (v & 0xD7) | 0x02`: what `POP PSW` loads (47_stack.md R295). -/
def Flags.ofPopped (v : Byte) : Flags := Flags.ofByte ((v &&& 0xD7#8) ||| 0x02#8)

/-- `FlagGet(i)` (10_state.md R36). -/
def Flags.getBit (f : Flags) (i : Fin 8) : Bool := f.toByte.getLsbD i.val

/-- `FlagSet(i, b)`: the other seven bits stay (10_state.md R36). -/
def Flags.setBit (f : Flags) (i : Fin 8) (b : Bool) : Flags :=
  match i.val with
  | 0 => { f with cy := b }
  | 1 => { f with b1 := b }
  | 2 => { f with p := b }
  | 3 => { f with b3 := b }
  | 4 => { f with ac := b }
  | 5 => { f with b5 := b }
  | 6 => { f with z := b }
  | _ => { f with s := b }

/-- `PSW`, the view `A:F` (10_state.md R25). -/
def State.psw (s : State) : Word := joinBytes s.regs.a s.flags.toByte

/-! ## Common rules -/

/-- `parity8(v)`: 1 when the number of 1 bits is even (40_alu_microops.md R131). -/
def parity8 (v : Byte) : Bool :=
  !(v.getLsbD 7 ^^ v.getLsbD 6 ^^ v.getLsbD 5 ^^ v.getLsbD 4 ^^ v.getLsbD 3 ^^ v.getLsbD 2
    ^^ v.getLsbD 1 ^^ v.getLsbD 0)

/-- `SZP(v)` (40_alu_microops.md R132). -/
def szp (v : Byte) (f : Flags) : Flags :=
  { f with s := v.getLsbD 7, z := decide (v = 0), p := parity8 v }

/-- The low nibble `v[3:0]` as a number. -/
def lowNibble (v : Byte) : Nat := v.toNat % 16

/-- The high nibble `v[7:4]` as a number. -/
def highNibble (v : Byte) : Nat := v.toNat / 16

/-! ## Add, subtract, increment, decrement, compare -/

/-- `ADD8(a, b, cin)`: the headroom test on the integer `b + cin`, and the carry out of bit 3
(40_alu_microops.md R136). -/
def add8 (a b : Byte) (cin : Bool) (f : Flags) : Byte × Flags :=
  let r := BitVec.ofNat 8 (a.toNat + b.toNat + cin.toNat)
  (r, szp r { f with
    cy := decide (b.toNat + cin.toNat > 0xFF - a.toNat)
    ac := decide (lowNibble a + lowNibble b + cin.toNat > 0x0F) })

/-- `AC` after a subtraction from the nibble borrow, by polarity (40_alu_microops.md R137, R139). -/
def acOfBorrow (pol : Config.AcSub) (nb : Bool) : Bool :=
  match pol with
  | .borrow => nb
  | .carry => !nb

/-- `SUB8(a, b, bin)`: the borrow test on the integer `b + bin` (40_alu_microops.md R137). -/
def sub8 (pol : Config.AcSub) (a b : Byte) (bin : Bool) (f : Flags) : Byte × Flags :=
  let r := a - b - BitVec.ofNat 8 bin.toNat
  (r, szp r { f with
    cy := decide (b.toNat + bin.toNat > a.toNat)
    ac := acOfBorrow pol (decide (lowNibble b + bin.toNat > lowNibble a)) })

/-- `INC8(v)`; `CY` is not written (40_alu_microops.md R138). -/
def inc8 (v : Byte) (f : Flags) : Byte × Flags :=
  let r := v + 1
  (r, szp r { f with ac := decide (lowNibble v = 0xF) })

/-- `DEC8(v)`; `CY` is not written (40_alu_microops.md R139). -/
def dec8 (pol : Config.AcSub) (v : Byte) (f : Flags) : Byte × Flags :=
  let r := v - 1
  (r, szp r { f with ac := acOfBorrow pol (decide (lowNibble v = 0x0)) })

/-- `LOGIC8(r)` with the draw `LOGIC_AC` handed in (40_alu_microops.md R140). -/
def logic8 (r : Byte) (logicAc : Bool) (f : Flags) : Flags :=
  szp r { f with cy := false, ac := logicAc }

/-- `CMP8(a, b)`: the flags of `SUB8(a, b, 0)`, the result dropped (40_alu_microops.md R141). -/
def cmp8 (pol : Config.AcSub) (a b : Byte) (f : Flags) : Flags := (sub8 pol a b false f).2

/-! ## Rotates -/

/-- `RLC8(a)` (40_alu_microops.md R142). -/
def rlc8 (a : Byte) (f : Flags) : Byte × Flags :=
  let c := a.getLsbD 7
  ((a <<< 1) ||| BitVec.ofNat 8 c.toNat, { f with cy := c })

/-- `RRC8(a)` (40_alu_microops.md R143). -/
def rrc8 (a : Byte) (f : Flags) : Byte × Flags :=
  let c := a.getLsbD 0
  ((a >>> 1) ||| (BitVec.ofNat 8 c.toNat <<< 7), { f with cy := c })

/-- `RAL8(a)`: the vacated bit is 0, or the old `CY` when `through` (`ROTATE_THROUGH_CARRY`) is set
(40_alu_microops.md R144). -/
def ral8 (through : Bool) (a : Byte) (f : Flags) : Byte × Flags :=
  ((a <<< 1) ||| (if through then BitVec.ofNat 8 f.cy.toNat else 0), { f with cy := a.getLsbD 7 })

/-- `RAR8(a)`: the vacated bit is 0, or the old `CY` when `through` (`ROTATE_THROUGH_CARRY`) is set
(40_alu_microops.md R145). -/
def rar8 (through : Bool) (a : Byte) (f : Flags) : Byte × Flags :=
  ((a >>> 1) ||| (if through then BitVec.ofNat 8 f.cy.toNat <<< 7 else 0),
    { f with cy := a.getLsbD 0 })

/-! ## Decimal adjust -/

/-- Step 1 of `DAA8`: the low nibble (40_alu_microops.md R146). -/
def daaLow (a : Byte) (f : Flags) : Byte × Flags :=
  if lowNibble a > 9 || f.ac then (a + 0x06, { f with ac := true }) else (a, f)

/-- Step 2 of `DAA8`: the high nibble of the byte step 1 left (40_alu_microops.md R146). -/
def daaHigh (a : Byte) (f : Flags) : Byte × Flags :=
  if highNibble a > 9 || f.cy then (a + 0x60, { f with cy := true }) else (a, f)

/-- `DAA8()` (40_alu_microops.md R146). -/
def daa8 (a : Byte) (f : Flags) : Byte × Flags :=
  let (a1, f1) := daaLow a f
  let (a2, f2) := daaHigh a1 f1
  (a2, szp a2 f2)

/-! ## 16-bit operations, carry and complement -/

/-- `ADD16(h, v)`: `CY` only, by the headroom test (40_alu_microops.md R147). -/
def add16 (h v : Word) (f : Flags) : Word × Flags :=
  (h + v, { f with cy := decide (v.toNat > 0xFFFF - h.toNat) })

/-- `INC16(v)` (40_alu_microops.md R148). -/
def inc16 (v : Word) : Word := v + 1

/-- `DEC16(v)` (40_alu_microops.md R148). -/
def dec16 (v : Word) : Word := v - 1

/-- `STC` (40_alu_microops.md R149). -/
def setCarry (f : Flags) : Flags := { f with cy := true }

/-- `CMC` (40_alu_microops.md R149). -/
def complementCarry (f : Flags) : Flags := { f with cy := !f.cy }

/-- `CMA` (40_alu_microops.md R149). -/
def complement8 (a : Byte) : Byte := a ^^^ 0xFF#8

end Sys2Proof.Machine
end

