-- ==== Sys2Proof/Machine/Arithmetic.lean ====
section
/-! DEFINITION. Arithmetic and compare instructions (43_arithmetic_compare.md). Operands are sampled before `A` or a flag is written (40_alu_microops.md R151). -/

namespace Sys2Proof.Machine

/-- `A` and the flags replaced together. -/
def State.setAccumulator (s : State) (r : Byte × Flags) : State :=
  { s with regs := { s.regs with a := r.1 }, flags := r.2 }

/-- `A <- ADD8(A, v, cin)` (R201 to R204). -/
def State.accAdd (s : State) (v : Byte) (cin : Bool) : State :=
  s.setAccumulator (add8 s.regs.a v cin s.flags)

/-- `A <- SUB8(A, v, bin)`, `AC` by `AC_SUB` (R205 to R208). -/
def State.accSub (s : State) (v : Byte) (bin : Bool) : State :=
  s.setAccumulator (sub8 Config.acSub s.regs.a v bin s.flags)

/-- `CMP8(A, v)`; `A` is not changed (R210, R211). -/
def State.accCompare (s : State) (v : Byte) : State :=
  { s with flags := cmp8 Config.acSub s.regs.a v s.flags }

/-- `DAD rp`: `HL <- ADD16(HL, RP[pp])`, `CY` only (R209). -/
def State.addPairToHl (s : State) (p : Rp) : State :=
  let (r, f) := add16 s.hl (s.rp p) s.flags
  { s.setHl r with flags := f }

/-! ## The meanings, one for each opcode byte -/

/-- 0x09 `DAD B` (R209). -/
def execDadB (s : State) : Result := .next (s.addPairToHl .bc)

/-- 0x19 `DAD D` (R209). -/
def execDadD (s : State) : Result := .next (s.addPairToHl .de)

/-- 0x29 `DAD H` (R209). -/
def execDadH (s : State) : Result := .next (s.addPairToHl .hl)

/-- 0x39 `DAD SP` (R209). -/
def execDadSP (s : State) : Result := .next (s.addPairToHl .sp)

/-- 0x80 `ADD B` (R201). -/
def execAddB (s : State) : Result := .next (s.accAdd (s.operand8 (.reg .b)) false)

/-- 0x81 `ADD C` (R201). -/
def execAddC (s : State) : Result := .next (s.accAdd (s.operand8 (.reg .c)) false)

/-- 0x82 `ADD D` (R201). -/
def execAddD (s : State) : Result := .next (s.accAdd (s.operand8 (.reg .d)) false)

/-- 0x83 `ADD E` (R201). -/
def execAddE (s : State) : Result := .next (s.accAdd (s.operand8 (.reg .e)) false)

/-- 0x84 `ADD H` (R201). -/
def execAddH (s : State) : Result := .next (s.accAdd (s.operand8 (.reg .h)) false)

/-- 0x85 `ADD L` (R201). -/
def execAddL (s : State) : Result := .next (s.accAdd (s.operand8 (.reg .l)) false)

/-- 0x86 `ADD M` (R201). -/
def execAddM (s : State) : Result := .next (s.accAdd (s.operand8 .m) false)

/-- 0x87 `ADD A` (R201). -/
def execAddA (s : State) : Result := .next (s.accAdd (s.operand8 (.reg .a)) false)

/-- 0x88 `ADC B` (R202). -/
def execAdcB (s : State) : Result := .next (s.accAdd (s.operand8 (.reg .b)) s.flags.cy)

/-- 0x89 `ADC C` (R202). -/
def execAdcC (s : State) : Result := .next (s.accAdd (s.operand8 (.reg .c)) s.flags.cy)

/-- 0x8A `ADC D` (R202). -/
def execAdcD (s : State) : Result := .next (s.accAdd (s.operand8 (.reg .d)) s.flags.cy)

/-- 0x8B `ADC E` (R202). -/
def execAdcE (s : State) : Result := .next (s.accAdd (s.operand8 (.reg .e)) s.flags.cy)

/-- 0x8C `ADC H` (R202). -/
def execAdcH (s : State) : Result := .next (s.accAdd (s.operand8 (.reg .h)) s.flags.cy)

/-- 0x8D `ADC L` (R202). -/
def execAdcL (s : State) : Result := .next (s.accAdd (s.operand8 (.reg .l)) s.flags.cy)

/-- 0x8E `ADC M` (R202). -/
def execAdcM (s : State) : Result := .next (s.accAdd (s.operand8 .m) s.flags.cy)

/-- 0x8F `ADC A` (R202). -/
def execAdcA (s : State) : Result := .next (s.accAdd (s.operand8 (.reg .a)) s.flags.cy)

/-- 0x90 `SUB B` (R205). -/
def execSubB (s : State) : Result := .next (s.accSub (s.operand8 (.reg .b)) false)

/-- 0x91 `SUB C` (R205). -/
def execSubC (s : State) : Result := .next (s.accSub (s.operand8 (.reg .c)) false)

/-- 0x92 `SUB D` (R205). -/
def execSubD (s : State) : Result := .next (s.accSub (s.operand8 (.reg .d)) false)

/-- 0x93 `SUB E` (R205). -/
def execSubE (s : State) : Result := .next (s.accSub (s.operand8 (.reg .e)) false)

/-- 0x94 `SUB H` (R205). -/
def execSubH (s : State) : Result := .next (s.accSub (s.operand8 (.reg .h)) false)

/-- 0x95 `SUB L` (R205). -/
def execSubL (s : State) : Result := .next (s.accSub (s.operand8 (.reg .l)) false)

/-- 0x96 `SUB M` (R205). -/
def execSubM (s : State) : Result := .next (s.accSub (s.operand8 .m) false)

/-- 0x97 `SUB A` (R205). -/
def execSubA (s : State) : Result := .next (s.accSub (s.operand8 (.reg .a)) false)

/-- 0x98 `SBB B` (R206). -/
def execSbbB (s : State) : Result := .next (s.accSub (s.operand8 (.reg .b)) s.flags.cy)

/-- 0x99 `SBB C` (R206). -/
def execSbbC (s : State) : Result := .next (s.accSub (s.operand8 (.reg .c)) s.flags.cy)

/-- 0x9A `SBB D` (R206). -/
def execSbbD (s : State) : Result := .next (s.accSub (s.operand8 (.reg .d)) s.flags.cy)

/-- 0x9B `SBB E` (R206). -/
def execSbbE (s : State) : Result := .next (s.accSub (s.operand8 (.reg .e)) s.flags.cy)

/-- 0x9C `SBB H` (R206). -/
def execSbbH (s : State) : Result := .next (s.accSub (s.operand8 (.reg .h)) s.flags.cy)

/-- 0x9D `SBB L` (R206). -/
def execSbbL (s : State) : Result := .next (s.accSub (s.operand8 (.reg .l)) s.flags.cy)

/-- 0x9E `SBB M` (R206). -/
def execSbbM (s : State) : Result := .next (s.accSub (s.operand8 .m) s.flags.cy)

/-- 0x9F `SBB A` (R206). -/
def execSbbA (s : State) : Result := .next (s.accSub (s.operand8 (.reg .a)) s.flags.cy)

/-- 0xB8 `CMP B` (R210). -/
def execCmpB (s : State) : Result := .next (s.accCompare (s.operand8 (.reg .b)))

/-- 0xB9 `CMP C` (R210). -/
def execCmpC (s : State) : Result := .next (s.accCompare (s.operand8 (.reg .c)))

/-- 0xBA `CMP D` (R210). -/
def execCmpD (s : State) : Result := .next (s.accCompare (s.operand8 (.reg .d)))

/-- 0xBB `CMP E` (R210). -/
def execCmpE (s : State) : Result := .next (s.accCompare (s.operand8 (.reg .e)))

/-- 0xBC `CMP H` (R210). -/
def execCmpH (s : State) : Result := .next (s.accCompare (s.operand8 (.reg .h)))

/-- 0xBD `CMP L` (R210). -/
def execCmpL (s : State) : Result := .next (s.accCompare (s.operand8 (.reg .l)))

/-- 0xBE `CMP M` (R210). -/
def execCmpM (s : State) : Result := .next (s.accCompare (s.operand8 .m))

/-- 0xBF `CMP A` (R210). -/
def execCmpA (s : State) : Result := .next (s.accCompare (s.operand8 (.reg .a)))

/-- 0xC6 `ADI d8` (R203). -/
def execAdi (d8 : Byte) (s : State) : Result := .next (s.accAdd d8 false)

/-- 0xCE `ACI d8` (R204). -/
def execAci (d8 : Byte) (s : State) : Result := .next (s.accAdd d8 s.flags.cy)

/-- 0xD6 `SUI d8` (R207). -/
def execSui (d8 : Byte) (s : State) : Result := .next (s.accSub d8 false)

/-- 0xDE `SBI d8` (R208). -/
def execSbi (d8 : Byte) (s : State) : Result := .next (s.accSub d8 s.flags.cy)

/-- 0xFE `CPI d8` (R211). -/
def execCpi (d8 : Byte) (s : State) : Result := .next (s.accCompare d8)

end Sys2Proof.Machine
end

