-- ==== Sys2Proof/Machine/ControlTransfer.lean ====
section
/-! DEFINITION. Control transfer instructions (46_control_transfer.md). The operand is already fetched and `PC` points past the whole instruction, so a transfer not taken changes nothing more (R251). -/

namespace Sys2Proof.Machine

/-- `PC <- addr` (R252). -/
def State.jump (s : State) (a16 : Word) : State := { s with pc := a16 }

/-- `if Cond then PC <- addr` (R253 to R260). -/
def State.jumpWhen (s : State) (cond : Cond) (a16 : Word) : State :=
  if s.flags.cond cond then s.jump a16 else s

/-- `Push16(PC); PC <- addr` (R261). -/
def State.call (s : State) (a16 : Word) : State := (s.push16 s.pc).jump a16

/-- `if Cond then (Push16(PC); PC <- addr)` (R262 to R269). -/
def State.callWhen (s : State) (cond : Cond) (a16 : Word) : State :=
  if s.flags.cond cond then s.call a16 else s

/-- `PC <- Pop16()` (R270). -/
def State.ret (s : State) : State :=
  let (t, s1) := s.pop16
  s1.jump t

/-- `if Cond then PC <- Pop16()`: not taken, the stack is not read and `SP` stays (R251, R271 to
R278). -/
def State.retWhen (s : State) (cond : Cond) : State := if s.flags.cond cond then s.ret else s

/-- `Push16(PC); PC <- 8 * n` (R279). -/
def State.restart (s : State) (n : BitVec 3) : State := s.call (8 * n.setWidth 16)

/-- `PCHL`: `PC <- HL` (R280). -/
def State.jumpToHl (s : State) : State := s.jump s.hl

/-! ## The meanings, one for each opcode byte -/

/-- 0xC0 `RNZ` (R271). -/
def execRnz (s : State) : Result := .next (s.retWhen .nz)

/-- 0xC2 `JNZ a16` (R253). -/
def execJnz (a16 : Word) (s : State) : Result := .next (s.jumpWhen .nz a16)

/-- 0xC3 `JMP a16` (R252). -/
def execJmp (a16 : Word) (s : State) : Result := .next (s.jump a16)

/-- 0xC4 `CNZ a16` (R262). -/
def execCnz (a16 : Word) (s : State) : Result := .next (s.callWhen .nz a16)

/-- 0xC7 `RST 0` (R279). -/
def execRst0 (s : State) : Result := .next (s.restart 0)

/-- 0xC8 `RZ` (R272). -/
def execRz (s : State) : Result := .next (s.retWhen .z)

/-- 0xC9 `RET` (R270). -/
def execRet (s : State) : Result := .next (s.ret)

/-- 0xCA `JZ a16` (R254). -/
def execJz (a16 : Word) (s : State) : Result := .next (s.jumpWhen .z a16)

/-- 0xCB, alias of `JMP a16` while `CB_BEHAVIOUR = jmp`; refused under `refuse` (R281). -/
def execJmpCB (a16 : Word) (s : State) : Result :=
  match Config.cbBehaviour with
  | .jmp => .next (s.jump a16)
  | .refuse => .refused .opcodeCBRefused

/-- 0xCC `CZ a16` (R263). -/
def execCz (a16 : Word) (s : State) : Result := .next (s.callWhen .z a16)

/-- 0xCD `CALL a16` (R261). -/
def execCall (a16 : Word) (s : State) : Result := .next (s.call a16)

/-- 0xCF `RST 1` (R279). -/
def execRst1 (s : State) : Result := .next (s.restart 1)

/-- 0xD0 `RNC` (R273). -/
def execRnc (s : State) : Result := .next (s.retWhen .nc)

/-- 0xD2 `JNC a16` (R255). -/
def execJnc (a16 : Word) (s : State) : Result := .next (s.jumpWhen .nc a16)

/-- 0xD4 `CNC a16` (R264). -/
def execCnc (a16 : Word) (s : State) : Result := .next (s.callWhen .nc a16)

/-- 0xD7 `RST 2` (R279). -/
def execRst2 (s : State) : Result := .next (s.restart 2)

/-- 0xD8 `RC` (R274). -/
def execRc (s : State) : Result := .next (s.retWhen .c)

/-- 0xD9 `RET`, alias encoding (R282). -/
def execRetD9 (s : State) : Result := .next (s.ret)

/-- 0xDA `JC a16` (R256). -/
def execJc (a16 : Word) (s : State) : Result := .next (s.jumpWhen .c a16)

/-- 0xDC `CC a16` (R265). -/
def execCc (a16 : Word) (s : State) : Result := .next (s.callWhen .c a16)

/-- 0xDD `CALL a16`, alias encoding (R283). -/
def execCallDD (a16 : Word) (s : State) : Result := .next (s.call a16)

/-- 0xDF `RST 3` (R279). -/
def execRst3 (s : State) : Result := .next (s.restart 3)

/-- 0xE0 `RPO` (R275). -/
def execRpo (s : State) : Result := .next (s.retWhen .po)

/-- 0xE2 `JPO a16` (R257). -/
def execJpo (a16 : Word) (s : State) : Result := .next (s.jumpWhen .po a16)

/-- 0xE4 `CPO a16` (R266). -/
def execCpo (a16 : Word) (s : State) : Result := .next (s.callWhen .po a16)

/-- 0xE7 `RST 4` (R279). -/
def execRst4 (s : State) : Result := .next (s.restart 4)

/-- 0xE8 `RPE` (R276). -/
def execRpe (s : State) : Result := .next (s.retWhen .pe)

/-- 0xE9 `PCHL` (R280). -/
def execPchl (s : State) : Result := .next (s.jumpToHl)

/-- 0xEA `JPE a16` (R258). -/
def execJpe (a16 : Word) (s : State) : Result := .next (s.jumpWhen .pe a16)

/-- 0xEC `CPE a16` (R267). -/
def execCpe (a16 : Word) (s : State) : Result := .next (s.callWhen .pe a16)

/-- 0xED `CALL a16`, alias encoding (R283). -/
def execCallED (a16 : Word) (s : State) : Result := .next (s.call a16)

/-- 0xEF `RST 5` (R279). -/
def execRst5 (s : State) : Result := .next (s.restart 5)

/-- 0xF0 `RP` (R277). -/
def execRp (s : State) : Result := .next (s.retWhen .p)

/-- 0xF2 `JP a16` (R259). -/
def execJp (a16 : Word) (s : State) : Result := .next (s.jumpWhen .p a16)

/-- 0xF4 `CP a16` (R268). -/
def execCp (a16 : Word) (s : State) : Result := .next (s.callWhen .p a16)

/-- 0xF7 `RST 6` (R279). -/
def execRst6 (s : State) : Result := .next (s.restart 6)

/-- 0xF8 `RM` (R278). -/
def execRm (s : State) : Result := .next (s.retWhen .m)

/-- 0xFA `JM a16` (R260). -/
def execJm (a16 : Word) (s : State) : Result := .next (s.jumpWhen .m a16)

/-- 0xFC `CM a16` (R269). -/
def execCm (a16 : Word) (s : State) : Result := .next (s.callWhen .m a16)

/-- 0xFD `CALL a16`, alias encoding (R283). -/
def execCallFD (a16 : Word) (s : State) : Result := .next (s.call a16)

/-- 0xFF `RST 7` (R279). -/
def execRst7 (s : State) : Result := .next (s.restart 7)

end Sys2Proof.Machine
end

