-- ==== Sys2Proof/Machine/DataTransfer.lean ====
section
/-! DEFINITION. Data transfer instructions (41_data_transfer.md): no flag is read or written (R160). -/

namespace Sys2Proof.Machine

/-- `MOV r1,r2`: `R[ddd] <- R[sss]` (R161). -/
def State.movReg (s : State) (dst src : Reg8) : State := s.setReg dst (s.reg src)

/-- `MOV r,M`: `R[ddd] <- MemRead(HL, 1)` (R162). -/
def State.movFromM (s : State) (dst : Reg8) : State := s.setReg dst (s.readByte s.hl)

/-- `MOV M,r`: `MemWrite(HL, 1, R[sss])` (R163). -/
def State.movToM (s : State) (src : Reg8) : State := s.writeByte s.hl (s.reg src)

/-- `MVI r,d8` and `MVI M,d8` (R164, R165). -/
def State.moveImmediate (s : State) (o : Operand8) (d8 : Byte) : State := s.writeOperand8 o d8

/-- `LXI rp,d16`: `RP[pp] <- d16` (R166). -/
def State.loadPairImmediate (s : State) (p : Rp) (d16 : Word) : State := s.setRp p d16

/-- `LDA a16`: `A <- MemRead(addr, 1)` (R167). -/
def State.loadADirect (s : State) (a16 : Word) : State := s.setReg .a (s.readByte a16)

/-- `STA a16`: `MemWrite(addr, 1, A)` (R168). -/
def State.storeADirect (s : State) (a16 : Word) : State := s.writeByte a16 s.regs.a

/-- `LDAX rp`: `A <- MemRead(RP[pp], 1)` (R169). -/
def State.loadAIndirect (s : State) (p : RpIndirect) : State :=
  s.setReg .a (s.readByte (s.rpIndirect p))

/-- `STAX rp`: `MemWrite(RP[pp], 1, A)` (R170). -/
def State.storeAIndirect (s : State) (p : RpIndirect) : State :=
  s.writeByte (s.rpIndirect p) s.regs.a

/-- `LHLD a16`: `HL <- MemRead(addr, 2)` (R171). -/
def State.loadHlDirect (s : State) (a16 : Word) : State := s.setHl (s.readWord a16)

/-- `SHLD a16`: `MemWrite(addr, 2, HL)` (R172). -/
def State.storeHlDirect (s : State) (a16 : Word) : State := s.writeWord a16 s.hl

/-- `XCHG`: `HL` and `DE` change places (R173). -/
def State.exchangeHlDe (s : State) : State := (s.setHl s.de).setDe s.hl

/-- `XTHL`: `HL` and the word at `SP` change places; the old word is read before the new one is
written, and `SP` stays (R174, 20_memory.md R84). -/
def State.exchangeHlTop (s : State) : State :=
  let t := s.readWord s.sp
  (s.writeWord s.sp s.hl).setHl t

/-- `SPHL`: `SP <- HL` (R175). -/
def State.copyHlToSp (s : State) : State := { s with sp := s.hl }

/-! ## The meanings, one for each opcode byte -/

/-- 0x01 `LXI B,d16` (R166). -/
def execLxiB (d16 : Word) (s : State) : Result := .next (s.loadPairImmediate .bc d16)

/-- 0x02 `STAX B` (R170). -/
def execStaxB (s : State) : Result := .next (s.storeAIndirect .bc)

/-- 0x06 `MVI B,d8` (R164). -/
def execMviB (d8 : Byte) (s : State) : Result := .next (s.moveImmediate (.reg .b) d8)

/-- 0x0A `LDAX B` (R169). -/
def execLdaxB (s : State) : Result := .next (s.loadAIndirect .bc)

/-- 0x0E `MVI C,d8` (R164). -/
def execMviC (d8 : Byte) (s : State) : Result := .next (s.moveImmediate (.reg .c) d8)

/-- 0x11 `LXI D,d16` (R166). -/
def execLxiD (d16 : Word) (s : State) : Result := .next (s.loadPairImmediate .de d16)

/-- 0x12 `STAX D` (R170). -/
def execStaxD (s : State) : Result := .next (s.storeAIndirect .de)

/-- 0x16 `MVI D,d8` (R164). -/
def execMviD (d8 : Byte) (s : State) : Result := .next (s.moveImmediate (.reg .d) d8)

/-- 0x1A `LDAX D` (R169). -/
def execLdaxD (s : State) : Result := .next (s.loadAIndirect .de)

/-- 0x1E `MVI E,d8` (R164). -/
def execMviE (d8 : Byte) (s : State) : Result := .next (s.moveImmediate (.reg .e) d8)

/-- 0x21 `LXI H,d16` (R166). -/
def execLxiH (d16 : Word) (s : State) : Result := .next (s.loadPairImmediate .hl d16)

/-- 0x22 `SHLD a16` (R172). -/
def execShld (a16 : Word) (s : State) : Result := .next (s.storeHlDirect a16)

/-- 0x26 `MVI H,d8` (R164). -/
def execMviH (d8 : Byte) (s : State) : Result := .next (s.moveImmediate (.reg .h) d8)

/-- 0x2A `LHLD a16` (R171). -/
def execLhld (a16 : Word) (s : State) : Result := .next (s.loadHlDirect a16)

/-- 0x2E `MVI L,d8` (R164). -/
def execMviL (d8 : Byte) (s : State) : Result := .next (s.moveImmediate (.reg .l) d8)

/-- 0x31 `LXI SP,d16` (R166). -/
def execLxiSP (d16 : Word) (s : State) : Result := .next (s.loadPairImmediate .sp d16)

/-- 0x32 `STA a16` (R168). -/
def execSta (a16 : Word) (s : State) : Result := .next (s.storeADirect a16)

/-- 0x36 `MVI M,d8` (R165). -/
def execMviM (d8 : Byte) (s : State) : Result := .next (s.moveImmediate .m d8)

/-- 0x3A `LDA a16` (R167). -/
def execLda (a16 : Word) (s : State) : Result := .next (s.loadADirect a16)

/-- 0x3E `MVI A,d8` (R164). -/
def execMviA (d8 : Byte) (s : State) : Result := .next (s.moveImmediate (.reg .a) d8)

/-- 0x40 `MOV B,B` (R161). -/
def execMovBB (s : State) : Result := .next (s.movReg .b .b)

/-- 0x41 `MOV B,C` (R161). -/
def execMovBC (s : State) : Result := .next (s.movReg .b .c)

/-- 0x42 `MOV B,D` (R161). -/
def execMovBD (s : State) : Result := .next (s.movReg .b .d)

/-- 0x43 `MOV B,E` (R161). -/
def execMovBE (s : State) : Result := .next (s.movReg .b .e)

/-- 0x44 `MOV B,H` (R161). -/
def execMovBH (s : State) : Result := .next (s.movReg .b .h)

/-- 0x45 `MOV B,L` (R161). -/
def execMovBL (s : State) : Result := .next (s.movReg .b .l)

/-- 0x46 `MOV B,M` (R162). -/
def execMovBM (s : State) : Result := .next (s.movFromM .b)

/-- 0x47 `MOV B,A` (R161). -/
def execMovBA (s : State) : Result := .next (s.movReg .b .a)

/-- 0x48 `MOV C,B` (R161). -/
def execMovCB (s : State) : Result := .next (s.movReg .c .b)

/-- 0x49 `MOV C,C` (R161). -/
def execMovCC (s : State) : Result := .next (s.movReg .c .c)

/-- 0x4A `MOV C,D` (R161). -/
def execMovCD (s : State) : Result := .next (s.movReg .c .d)

/-- 0x4B `MOV C,E` (R161). -/
def execMovCE (s : State) : Result := .next (s.movReg .c .e)

/-- 0x4C `MOV C,H` (R161). -/
def execMovCH (s : State) : Result := .next (s.movReg .c .h)

/-- 0x4D `MOV C,L` (R161). -/
def execMovCL (s : State) : Result := .next (s.movReg .c .l)

/-- 0x4E `MOV C,M` (R162). -/
def execMovCM (s : State) : Result := .next (s.movFromM .c)

/-- 0x4F `MOV C,A` (R161). -/
def execMovCA (s : State) : Result := .next (s.movReg .c .a)

/-- 0x50 `MOV D,B` (R161). -/
def execMovDB (s : State) : Result := .next (s.movReg .d .b)

/-- 0x51 `MOV D,C` (R161). -/
def execMovDC (s : State) : Result := .next (s.movReg .d .c)

/-- 0x52 `MOV D,D` (R161). -/
def execMovDD (s : State) : Result := .next (s.movReg .d .d)

/-- 0x53 `MOV D,E` (R161). -/
def execMovDE (s : State) : Result := .next (s.movReg .d .e)

/-- 0x54 `MOV D,H` (R161). -/
def execMovDH (s : State) : Result := .next (s.movReg .d .h)

/-- 0x55 `MOV D,L` (R161). -/
def execMovDL (s : State) : Result := .next (s.movReg .d .l)

/-- 0x56 `MOV D,M` (R162). -/
def execMovDM (s : State) : Result := .next (s.movFromM .d)

/-- 0x57 `MOV D,A` (R161). -/
def execMovDA (s : State) : Result := .next (s.movReg .d .a)

/-- 0x58 `MOV E,B` (R161). -/
def execMovEB (s : State) : Result := .next (s.movReg .e .b)

/-- 0x59 `MOV E,C` (R161). -/
def execMovEC (s : State) : Result := .next (s.movReg .e .c)

/-- 0x5A `MOV E,D` (R161). -/
def execMovED (s : State) : Result := .next (s.movReg .e .d)

/-- 0x5B `MOV E,E` (R161). -/
def execMovEE (s : State) : Result := .next (s.movReg .e .e)

/-- 0x5C `MOV E,H` (R161). -/
def execMovEH (s : State) : Result := .next (s.movReg .e .h)

/-- 0x5D `MOV E,L` (R161). -/
def execMovEL (s : State) : Result := .next (s.movReg .e .l)

/-- 0x5E `MOV E,M` (R162). -/
def execMovEM (s : State) : Result := .next (s.movFromM .e)

/-- 0x5F `MOV E,A` (R161). -/
def execMovEA (s : State) : Result := .next (s.movReg .e .a)

/-- 0x60 `MOV H,B` (R161). -/
def execMovHB (s : State) : Result := .next (s.movReg .h .b)

/-- 0x61 `MOV H,C` (R161). -/
def execMovHC (s : State) : Result := .next (s.movReg .h .c)

/-- 0x62 `MOV H,D` (R161). -/
def execMovHD (s : State) : Result := .next (s.movReg .h .d)

/-- 0x63 `MOV H,E` (R161). -/
def execMovHE (s : State) : Result := .next (s.movReg .h .e)

/-- 0x64 `MOV H,H` (R161). -/
def execMovHH (s : State) : Result := .next (s.movReg .h .h)

/-- 0x65 `MOV H,L` (R161). -/
def execMovHL (s : State) : Result := .next (s.movReg .h .l)

/-- 0x66 `MOV H,M` (R162). -/
def execMovHM (s : State) : Result := .next (s.movFromM .h)

/-- 0x67 `MOV H,A` (R161). -/
def execMovHA (s : State) : Result := .next (s.movReg .h .a)

/-- 0x68 `MOV L,B` (R161). -/
def execMovLB (s : State) : Result := .next (s.movReg .l .b)

/-- 0x69 `MOV L,C` (R161). -/
def execMovLC (s : State) : Result := .next (s.movReg .l .c)

/-- 0x6A `MOV L,D` (R161). -/
def execMovLD (s : State) : Result := .next (s.movReg .l .d)

/-- 0x6B `MOV L,E` (R161). -/
def execMovLE (s : State) : Result := .next (s.movReg .l .e)

/-- 0x6C `MOV L,H` (R161). -/
def execMovLH (s : State) : Result := .next (s.movReg .l .h)

/-- 0x6D `MOV L,L` (R161). -/
def execMovLL (s : State) : Result := .next (s.movReg .l .l)

/-- 0x6E `MOV L,M` (R162). -/
def execMovLM (s : State) : Result := .next (s.movFromM .l)

/-- 0x6F `MOV L,A` (R161). -/
def execMovLA (s : State) : Result := .next (s.movReg .l .a)

/-- 0x70 `MOV M,B` (R163). -/
def execMovMB (s : State) : Result := .next (s.movToM .b)

/-- 0x71 `MOV M,C` (R163). -/
def execMovMC (s : State) : Result := .next (s.movToM .c)

/-- 0x72 `MOV M,D` (R163). -/
def execMovMD (s : State) : Result := .next (s.movToM .d)

/-- 0x73 `MOV M,E` (R163). -/
def execMovME (s : State) : Result := .next (s.movToM .e)

/-- 0x74 `MOV M,H` (R163). -/
def execMovMH (s : State) : Result := .next (s.movToM .h)

/-- 0x75 `MOV M,L` (R163). -/
def execMovML (s : State) : Result := .next (s.movToM .l)

/-- 0x77 `MOV M,A` (R163). -/
def execMovMA (s : State) : Result := .next (s.movToM .a)

/-- 0x78 `MOV A,B` (R161). -/
def execMovAB (s : State) : Result := .next (s.movReg .a .b)

/-- 0x79 `MOV A,C` (R161). -/
def execMovAC (s : State) : Result := .next (s.movReg .a .c)

/-- 0x7A `MOV A,D` (R161). -/
def execMovAD (s : State) : Result := .next (s.movReg .a .d)

/-- 0x7B `MOV A,E` (R161). -/
def execMovAE (s : State) : Result := .next (s.movReg .a .e)

/-- 0x7C `MOV A,H` (R161). -/
def execMovAH (s : State) : Result := .next (s.movReg .a .h)

/-- 0x7D `MOV A,L` (R161). -/
def execMovAL (s : State) : Result := .next (s.movReg .a .l)

/-- 0x7E `MOV A,M` (R162). -/
def execMovAM (s : State) : Result := .next (s.movFromM .a)

/-- 0x7F `MOV A,A` (R161). -/
def execMovAA (s : State) : Result := .next (s.movReg .a .a)

/-- 0xE3 `XTHL` (R174). -/
def execXthl (s : State) : Result := .next (s.exchangeHlTop)

/-- 0xEB `XCHG` (R173). -/
def execXchg (s : State) : Result := .next (s.exchangeHlDe)

/-- 0xF9 `SPHL` (R175). -/
def execSphl (s : State) : Result := .next (s.copyHlToSp)

end Sys2Proof.Machine
end

