-- ==== Sys2Proof/Machine/IncDec.lean ====
section
/-! DEFINITION. Increment and decrement instructions (42_inc_dec.md): the 8-bit forms leave `CY` alone, the pair forms leave every flag alone (R190). -/

namespace Sys2Proof.Machine

/-- An 8-bit operand replaced by the result of a micro-operation, with its flags; the address of `M`
is the `HL` before the write. -/
def State.mapOperand8 (s : State) (o : Operand8) (op : Byte → Flags → Byte × Flags) : State :=
  let (r, f) := op (s.operand8 o) s.flags
  { s.writeOperand8 o r with flags := f }

/-- `INR r` and `INR M` (R191, R192). -/
def State.increment8 (s : State) (o : Operand8) : State := s.mapOperand8 o inc8

/-- `DCR r` and `DCR M`, `AC` by `AC_SUB` (R193, R194). -/
def State.decrement8 (s : State) (o : Operand8) : State := s.mapOperand8 o (dec8 Config.acSub)

/-- `INX rp`: `RP[pp] <- INC16(RP[pp])` (R195). -/
def State.incrementPair (s : State) (p : Rp) : State := s.setRp p (inc16 (s.rp p))

/-- `DCX rp`: `RP[pp] <- DEC16(RP[pp])` (R196). -/
def State.decrementPair (s : State) (p : Rp) : State := s.setRp p (dec16 (s.rp p))

/-! ## The meanings, one for each opcode byte -/

/-- 0x03 `INX B` (R195). -/
def execInxB (s : State) : Result := .next (s.incrementPair .bc)

/-- 0x04 `INR B` (R191). -/
def execInrB (s : State) : Result := .next (s.increment8 (.reg .b))

/-- 0x05 `DCR B` (R193). -/
def execDcrB (s : State) : Result := .next (s.decrement8 (.reg .b))

/-- 0x0B `DCX B` (R196). -/
def execDcxB (s : State) : Result := .next (s.decrementPair .bc)

/-- 0x0C `INR C` (R191). -/
def execInrC (s : State) : Result := .next (s.increment8 (.reg .c))

/-- 0x0D `DCR C` (R193). -/
def execDcrC (s : State) : Result := .next (s.decrement8 (.reg .c))

/-- 0x13 `INX D` (R195). -/
def execInxD (s : State) : Result := .next (s.incrementPair .de)

/-- 0x14 `INR D` (R191). -/
def execInrD (s : State) : Result := .next (s.increment8 (.reg .d))

/-- 0x15 `DCR D` (R193). -/
def execDcrD (s : State) : Result := .next (s.decrement8 (.reg .d))

/-- 0x1B `DCX D` (R196). -/
def execDcxD (s : State) : Result := .next (s.decrementPair .de)

/-- 0x1C `INR E` (R191). -/
def execInrE (s : State) : Result := .next (s.increment8 (.reg .e))

/-- 0x1D `DCR E` (R193). -/
def execDcrE (s : State) : Result := .next (s.decrement8 (.reg .e))

/-- 0x23 `INX H` (R195). -/
def execInxH (s : State) : Result := .next (s.incrementPair .hl)

/-- 0x24 `INR H` (R191). -/
def execInrH (s : State) : Result := .next (s.increment8 (.reg .h))

/-- 0x25 `DCR H` (R193). -/
def execDcrH (s : State) : Result := .next (s.decrement8 (.reg .h))

/-- 0x2B `DCX H` (R196). -/
def execDcxH (s : State) : Result := .next (s.decrementPair .hl)

/-- 0x2C `INR L` (R191). -/
def execInrL (s : State) : Result := .next (s.increment8 (.reg .l))

/-- 0x2D `DCR L` (R193). -/
def execDcrL (s : State) : Result := .next (s.decrement8 (.reg .l))

/-- 0x33 `INX SP` (R195). -/
def execInxSP (s : State) : Result := .next (s.incrementPair .sp)

/-- 0x34 `INR M` (R192). -/
def execInrM (s : State) : Result := .next (s.increment8 .m)

/-- 0x35 `DCR M` (R194). -/
def execDcrM (s : State) : Result := .next (s.decrement8 .m)

/-- 0x3B `DCX SP` (R196). -/
def execDcxSP (s : State) : Result := .next (s.decrementPair .sp)

/-- 0x3C `INR A` (R191). -/
def execInrA (s : State) : Result := .next (s.increment8 (.reg .a))

/-- 0x3D `DCR A` (R193). -/
def execDcrA (s : State) : Result := .next (s.decrement8 (.reg .a))

end Sys2Proof.Machine
end

