-- ==== Sys2Proof/Machine/Logical.lean ====
section
/-! DEFINITION. Logical instructions (44_logical.md): `CY` cleared, `AC` an unconstrained value drawn fresh at every execution (R220). -/

namespace Sys2Proof.Machine

/-- `A <- r; LOGIC8(r)` with a fresh `LOGIC_AC` (R220, 40_alu_microops.md R140). -/
def State.accLogic (s : State) (r : Byte) : State :=
  let (ac, s1) := s.drawLogicAc
  { s1 with regs := { s1.regs with a := r }, flags := logic8 r ac s1.flags }

/-- `ANA`, `ANI` (R221, R222). -/
def State.accAnd (s : State) (v : Byte) : State := s.accLogic (s.regs.a &&& v)

/-- `XRA`, `XRI` (R223, R224). -/
def State.accXor (s : State) (v : Byte) : State := s.accLogic (s.regs.a ^^^ v)

/-- `ORA`, `ORI` (R225, R226). -/
def State.accOr (s : State) (v : Byte) : State := s.accLogic (s.regs.a ||| v)

/-! ## The meanings, one for each opcode byte -/

/-- 0xA0 `ANA B` (R221). -/
def execAnaB (s : State) : Result := .next (s.accAnd (s.operand8 (.reg .b)))

/-- 0xA1 `ANA C` (R221). -/
def execAnaC (s : State) : Result := .next (s.accAnd (s.operand8 (.reg .c)))

/-- 0xA2 `ANA D` (R221). -/
def execAnaD (s : State) : Result := .next (s.accAnd (s.operand8 (.reg .d)))

/-- 0xA3 `ANA E` (R221). -/
def execAnaE (s : State) : Result := .next (s.accAnd (s.operand8 (.reg .e)))

/-- 0xA4 `ANA H` (R221). -/
def execAnaH (s : State) : Result := .next (s.accAnd (s.operand8 (.reg .h)))

/-- 0xA5 `ANA L` (R221). -/
def execAnaL (s : State) : Result := .next (s.accAnd (s.operand8 (.reg .l)))

/-- 0xA6 `ANA M` (R221). -/
def execAnaM (s : State) : Result := .next (s.accAnd (s.operand8 .m))

/-- 0xA7 `ANA A` (R221). -/
def execAnaA (s : State) : Result := .next (s.accAnd (s.operand8 (.reg .a)))

/-- 0xA8 `XRA B` (R223). -/
def execXraB (s : State) : Result := .next (s.accXor (s.operand8 (.reg .b)))

/-- 0xA9 `XRA C` (R223). -/
def execXraC (s : State) : Result := .next (s.accXor (s.operand8 (.reg .c)))

/-- 0xAA `XRA D` (R223). -/
def execXraD (s : State) : Result := .next (s.accXor (s.operand8 (.reg .d)))

/-- 0xAB `XRA E` (R223). -/
def execXraE (s : State) : Result := .next (s.accXor (s.operand8 (.reg .e)))

/-- 0xAC `XRA H` (R223). -/
def execXraH (s : State) : Result := .next (s.accXor (s.operand8 (.reg .h)))

/-- 0xAD `XRA L` (R223). -/
def execXraL (s : State) : Result := .next (s.accXor (s.operand8 (.reg .l)))

/-- 0xAE `XRA M` (R223). -/
def execXraM (s : State) : Result := .next (s.accXor (s.operand8 .m))

/-- 0xAF `XRA A` (R223). -/
def execXraA (s : State) : Result := .next (s.accXor (s.operand8 (.reg .a)))

/-- 0xB0 `ORA B` (R225). -/
def execOraB (s : State) : Result := .next (s.accOr (s.operand8 (.reg .b)))

/-- 0xB1 `ORA C` (R225). -/
def execOraC (s : State) : Result := .next (s.accOr (s.operand8 (.reg .c)))

/-- 0xB2 `ORA D` (R225). -/
def execOraD (s : State) : Result := .next (s.accOr (s.operand8 (.reg .d)))

/-- 0xB3 `ORA E` (R225). -/
def execOraE (s : State) : Result := .next (s.accOr (s.operand8 (.reg .e)))

/-- 0xB4 `ORA H` (R225). -/
def execOraH (s : State) : Result := .next (s.accOr (s.operand8 (.reg .h)))

/-- 0xB5 `ORA L` (R225). -/
def execOraL (s : State) : Result := .next (s.accOr (s.operand8 (.reg .l)))

/-- 0xB6 `ORA M` (R225). -/
def execOraM (s : State) : Result := .next (s.accOr (s.operand8 .m))

/-- 0xB7 `ORA A` (R225). -/
def execOraA (s : State) : Result := .next (s.accOr (s.operand8 (.reg .a)))

/-- 0xE6 `ANI d8` (R222). -/
def execAni (d8 : Byte) (s : State) : Result := .next (s.accAnd d8)

/-- 0xEE `XRI d8` (R224). -/
def execXri (d8 : Byte) (s : State) : Result := .next (s.accXor d8)

/-- 0xF6 `ORI d8` (R226). -/
def execOri (d8 : Byte) (s : State) : Result := .next (s.accOr d8)

end Sys2Proof.Machine
end

