-- ==== Sys2Proof/Machine/RotateAdjust.lean ====
section
/-! DEFINITION. Rotate, decimal adjust, carry and complement instructions (45_rotate_daa_carry.md): they touch `A` and the flags only (R238). -/

namespace Sys2Proof.Machine

/-- `A` and the flags replaced by a micro-operation on them (R230 to R233). -/
def State.rotateA (s : State) (op : Byte → Flags → Byte × Flags) : State :=
  let (r, f) := op s.regs.a s.flags
  { s with regs := { s.regs with a := r }, flags := f }

/-- `DAA` (R234). -/
def State.decimalAdjustA (s : State) : State := s.rotateA daa8

/-- The flags alone replaced (R235, R236). -/
def State.mapFlags (s : State) (op : Flags → Flags) : State := { s with flags := op s.flags }

/-- `CMA`: no flag effects (R237). -/
def State.complementA (s : State) : State :=
  { s with regs := { s.regs with a := complement8 s.regs.a } }

/-! ## The meanings, one for each opcode byte -/

/-- 0x07 `RLC` (R230). -/
def execRlc (s : State) : Result := .next (s.rotateA rlc8)

/-- 0x0F `RRC` (R231). -/
def execRrc (s : State) : Result := .next (s.rotateA rrc8)

/-- 0x17 `RAL` (R232). -/
def execRal (s : State) : Result := .next (s.rotateA (ral8 Config.rotateThroughCarry))

/-- 0x1F `RAR` (R233). -/
def execRar (s : State) : Result := .next (s.rotateA (rar8 Config.rotateThroughCarry))

/-- 0x27 `DAA` (R234). -/
def execDaa (s : State) : Result := .next (s.decimalAdjustA)

/-- 0x2F `CMA` (R237). -/
def execCma (s : State) : Result := .next (s.complementA)

/-- 0x37 `STC` (R235). -/
def execStc (s : State) : Result := .next (s.mapFlags setCarry)

/-- 0x3F `CMC` (R236). -/
def execCmc (s : State) : Result := .next (s.mapFlags complementCarry)

end Sys2Proof.Machine
end

