-- ==== Sys2Proof/Machine/StackOps.lean ====
section
/-! DEFINITION. Stack instructions (47_stack.md): `PUSH` and `POP` of `BC`, `DE`, `HL` and `PSW`. -/

namespace Sys2Proof.Machine

/-- `RPQ[pp]` read (30_encoding.md R98): `PSW` is `A:F`, all eight bits of `F` as they stand (R293). -/
def State.rpq (s : State) : Rpq → Word
  | .bc => s.bc
  | .de => s.de
  | .hl => s.hl
  | .psw => s.psw

/-- `RPQ[pp]` written by a pop (30_encoding.md R98): `PSW` re-fixes bits 1, 3 and 5 of `F` (R295). -/
def State.setRpq (s : State) (p : Rpq) (v : Word) : State :=
  match p with
  | .bc => s.setBc v
  | .de => s.setDe v
  | .hl => s.setHl v
  | .psw => { s with regs := { s.regs with a := hiByte v }, flags := Flags.ofPopped (loByte v) }

/-- `Push16(RPQ[pp])` (R292, R293). -/
def State.pushPair (s : State) (p : Rpq) : State := s.push16 (s.rpq p)

/-- `RPQ[pp] <- Pop16()` (R294, R295). -/
def State.popPair (s : State) (p : Rpq) : State :=
  let (t, s1) := s.pop16
  s1.setRpq p t

/-! ## The meanings, one for each opcode byte -/

/-- 0xC1 `POP B` (R294). -/
def execPopB (s : State) : Result := .next (s.popPair .bc)

/-- 0xC5 `PUSH B` (R292). -/
def execPushB (s : State) : Result := .next (s.pushPair .bc)

/-- 0xD1 `POP D` (R294). -/
def execPopD (s : State) : Result := .next (s.popPair .de)

/-- 0xD5 `PUSH D` (R292). -/
def execPushD (s : State) : Result := .next (s.pushPair .de)

/-- 0xE1 `POP H` (R294). -/
def execPopH (s : State) : Result := .next (s.popPair .hl)

/-- 0xE5 `PUSH H` (R292). -/
def execPushH (s : State) : Result := .next (s.pushPair .hl)

/-- 0xF1 `POP PSW` (R295). -/
def execPopPSW (s : State) : Result := .next (s.popPair .psw)

/-- 0xF5 `PUSH PSW` (R293). -/
def execPushPSW (s : State) : Result := .next (s.pushPair .psw)

end Sys2Proof.Machine
end

