-- ==== Sys2Proof/Machine/System.lean ====
section
/-! DEFINITION. Input/output, interrupt control, halt and no operation (48_io_interrupt_nop.md). -/

namespace Sys2Proof.Machine

/-- `A <- PortIn(p)` (R300). -/
def State.input (s : State) (p8 : Byte) : State :=
  let (v, s1) := s.portIn p8
  s1.setReg .a v

/-- `PortOut(p, A)` (R301). -/
def State.output (s : State) (p8 : Byte) : State := s.portOut p8 s.regs.a

/-- `INTE <- 0`, at once (R302). -/
def State.disableInterrupts (s : State) : State := { s with inte := false }

/-- `INTE <- 1`, at once (R303). -/
def State.enableInterrupts (s : State) : State := { s with inte := true }

/-- `HALTED <- 1` (R304). -/
def State.halt (s : State) : State := { s with halted := true }

/-! ## The meanings, one for each opcode byte -/

/-- 0x00 `NOP` (R305). -/
def execNop (s : State) : Result := .next s

/-- 0x08 `NOP`, alias encoding (R306). -/
def execNop08 (s : State) : Result := .next s

/-- 0x10 `NOP`, alias encoding (R306). -/
def execNop10 (s : State) : Result := .next s

/-- 0x18 `NOP`, alias encoding (R306). -/
def execNop18 (s : State) : Result := .next s

/-- 0x20 `NOP`, alias encoding (R306). -/
def execNop20 (s : State) : Result := .next s

/-- 0x28 `NOP`, alias encoding (R306). -/
def execNop28 (s : State) : Result := .next s

/-- 0x30 `NOP`, alias encoding (R306). -/
def execNop30 (s : State) : Result := .next s

/-- 0x38 `NOP`, alias encoding (R306). -/
def execNop38 (s : State) : Result := .next s

/-- 0x76 `HLT` (R304). -/
def execHlt (s : State) : Result := .next (s.halt)

/-- 0xD3 `OUT p8` (R301). -/
def execOutp (p8 : Byte) (s : State) : Result := .next (s.output p8)

/-- 0xDB `IN p8` (R300). -/
def execInp (p8 : Byte) (s : State) : Result := .next (s.input p8)

/-- 0xF3 `DI` (R302). -/
def execDi (s : State) : Result := .next (s.disableInterrupts)

/-- 0xFB `EI` (R303). -/
def execEi (s : State) : Result := .next (s.enableInterrupts)

end Sys2Proof.Machine
end

