-- ==== Sys2Proof/Machine/Sequencer.lean ====
section
/-! DEFINITION. The step sequencer (60_exceptions.md R326 to R329): execution of an opcode byte,
instruction fetch, interrupt service, idle. -/

namespace Sys2Proof.Machine

/-- The instruction of an opcode byte with its operand bytes, which are fetched from memory at `PC`
(30_encoding.md R92, R93, R116; 60_exceptions.md R333). -/
def State.fetchOperand (s : State) (op : Byte) : Instr × State :=
  match opcodeForm op with
  | .alone i => (i, s)
  | .withByte k => let (d, s1) := s.fetch8; (k d, s1)
  | .withWord k => let (w, s1) := s.fetch16; (k w, s1)

/-- `execute(op)`: the same for a fetched opcode and for an interrupt vector byte (30_encoding.md R91,
R116). -/
def execute (op : Byte) (s : State) : Result :=
  let (i, s1) := s.fetchOperand op
  exec i s1

/-- Fetch and execute: `op <- Fetch8(); execute(op)` (60_exceptions.md R328). -/
def fetchAndExecute (s : State) : Result :=
  let (op, s1) := s.fetch8
  execute op s1

/-- Interrupt service: `INTE <- 0`, the vector byte executed without a fetch, then `INT_PENDING <- 0;
HALTED <- 0` (60_exceptions.md R327). -/
def serviceInterrupt (s : State) : Result :=
  match execute s.intVector s.beginService with
  | .next t => .next t.endService
  | .fault r => .fault r
  | .refused r => .refused r

/-- One step under a gate: service, fetch and execute, or idle, decided in this order
(60_exceptions.md R326, R329). -/
def stepUnder (g : Config.IntStepGate) (s : State) : Result :=
  if s.intPending && s.gateOpen g then serviceInterrupt s
  else if s.halted then .next s
  else fetchAndExecute s

/-- The bytes of a list written from an address on, wrapping modulo 65536: the write contract of
`load(origin, code)` (60_exceptions.md R338). -/
def State.load (s : State) (origin : Word) : List Byte → State
  | [] => s
  | v :: code => (s.writeByte origin v).load (origin + 1) code

end Sys2Proof.Machine
end

