-- ==== Sys2Proof/Machine/Step.lean ====
section
/-! DEFINITION. One step of the machine (60_exceptions.md R326), and the placing of an instruction where
the next step fetches it. -/

namespace Sys2Proof.Machine

/-- `step()` (60_exceptions.md R326) under this machine's `INT_STEP_GATE`. -/
def step (s : State) : Host.Outcome State Fault Refusal := stepUnder Config.intStepGate s

/-- An opcode-table word placed where the next step fetches: its bytes at `PC`, no interrupt pending
and not halted, so that the step is a fetch (60_exceptions.md R326, R328). It stands for the host's
`load` (log entry 3). -/
def State.withFetchWord (s : State) (nbits w : Nat) : State :=
  { s.load s.pc (tableWordBytes nbits w) with intPending := false, halted := false }

end Sys2Proof.Machine
end

