-- ==== Sys2Proof/Machine/HostActions.lean ====
section
/-! DEFINITION. What the host may do between two steps (60_exceptions.md R338 to R341, R346;
10_state.md R36, R46): request an interrupt, write memory, use the accessors, read `HALTED`. -/

namespace Sys2Proof.Machine

/-- The bytes the host's typed accessors reach (10_state.md R46). -/
inductive HostByte where
  | a | f | b | c | d | e | h | l
deriving DecidableEq, Repr

/-- The words the host's typed accessors reach (10_state.md R46). -/
inductive HostWord where
  | bc | de | hl | psw | sp | pc
deriving DecidableEq, Repr

/-- Read accessor for a byte (10_state.md R46). -/
def State.hostReadByte (s : State) : HostByte → Byte
  | .a => s.regs.a
  | .f => s.flags.toByte
  | .b => s.regs.b
  | .c => s.regs.c
  | .d => s.regs.d
  | .e => s.regs.e
  | .h => s.regs.h
  | .l => s.regs.l

/-- Write accessor for a byte: raw, bits 1, 3 and 5 of `F` included (10_state.md R46). -/
def State.hostWriteByte (s : State) (x : HostByte) (v : Byte) : State :=
  match x with
  | .a => { s with regs := { s.regs with a := v } }
  | .f => { s with flags := Flags.ofByte v }
  | .b => { s with regs := { s.regs with b := v } }
  | .c => { s with regs := { s.regs with c := v } }
  | .d => { s with regs := { s.regs with d := v } }
  | .e => { s with regs := { s.regs with e := v } }
  | .h => { s with regs := { s.regs with h := v } }
  | .l => { s with regs := { s.regs with l := v } }

/-- Read accessor for a word (10_state.md R22 to R25, R46). -/
def State.hostReadWord (s : State) : HostWord → Word
  | .bc => s.bc
  | .de => s.de
  | .hl => s.hl
  | .psw => s.psw
  | .sp => s.sp
  | .pc => s.pc

/-- Write accessor for a word: raw (10_state.md R22 to R26, R46). -/
def State.hostWriteWord (s : State) (x : HostWord) (v : Word) : State :=
  match x with
  | .bc => s.setBc v
  | .de => s.setDe v
  | .hl => s.setHl v
  | .psw => { s with regs := { s.regs with a := hiByte v }, flags := Flags.ofByte (loByte v) }
  | .sp => { s with sp := v }
  | .pc => { s with pc := v }

/-- `FlagGet(i)` (10_state.md R36). -/
def State.flagGet (s : State) (i : Fin 8) : Bool := s.flags.getBit i

/-- `FlagSet(i, b)` (10_state.md R36). -/
def State.flagSet (s : State) (i : Fin 8) (b : Bool) : State :=
  { s with flags := s.flags.setBit i b }

/-- `getHalted()`: the only latch the host can read (60_exceptions.md R339). -/
def State.getHalted (s : State) : Bool := s.halted

/-- The host's moves that change the state (60_exceptions.md R346). -/
inductive HostMove where
  | interrupt (v : Byte)
  | load (origin : Word) (code : List Byte)
  | writeMemory (addr : Word) (v : Byte)
  | writeByte (x : HostByte) (v : Byte)
  | writeWord (x : HostWord) (v : Word)
  | writeFlag (i : Fin 8) (b : Bool)
deriving DecidableEq, Repr

/-- The state after a host move. -/
def State.hostMove (s : State) : HostMove → State
  | .interrupt v => s.interrupt v
  | .load origin code => s.load origin code
  | .writeMemory addr v => s.writeByte addr v
  | .writeByte x v => s.hostWriteByte x v
  | .writeWord x v => s.hostWriteWord x v
  | .writeFlag i b => s.flagSet i b

end Sys2Proof.Machine
end

