-- ==== Sys2Proof/Safety.lean ====
section
/-! DEFINITION. The terms the claims use: runs of the two agents, the invariant, what stays unchanged,
and which instructions may write what. -/

namespace Sys2Proof.Machine

/-! ## Runs -/

/-- A move of one of the two agents (60_exceptions.md R346). -/
inductive Move where
  /-- The core's only move. -/
  | step
  /-- A move of the host, between two steps (R341). -/
  | host (m : HostMove)
deriving DecidableEq, Repr

/-- What a move answers. -/
def State.apply (s : State) : Move → Result
  | .step => step s
  | .host m => .next (s.hostMove m)

/-- A run: moves in order, up to the first stop. -/
def State.run (s : State) : List Move → Result
  | [] => .next s
  | m :: ms =>
    match s.apply m with
    | .next t => t.run ms
    | .fault r => .fault r
    | .refused r => .refused r

/-- A step is safe when it has a next state. -/
def SafeStep (s : State) : Prop := ∃ t, step s = .next t

/-- The invariant of the machine between host calls: memory is in canonical form, and a pending request
implies `INTE = 0` (10_state.md R48). -/
def Inv (s : State) : Prop := Memory.wf s.mem ∧ (s.intPending = true → s.inte = false)

/-- Unspecified reset contents whose memory is in canonical form. -/
def ResetDraws.wf (d : ResetDraws) : Prop := Memory.wf d.mem

/-- The states a run can reach from construction (70_reset_and_hazards.md R360). -/
inductive Reachable : State → Prop where
  | reset (d : ResetDraws) (h : d.wf) : Reachable (State.resetWith d)
  | move {s t : State} {m : Move} (h : Reachable s) (hm : s.apply m = .next t) : Reachable t

/-- The permanent halt (60_exceptions.md R342). -/
def Hung (s : State) : Prop := s.halted = true ∧ s.inte = false ∧ s.intPending = false

/-! ## What stays unchanged -/

/-- Every 8-bit register but those listed holds what it held. -/
def KeepsRegsBut (but : List Reg8) (s t : State) : Prop := ∀ r, r ∉ but → t.reg r = s.reg r

/-- Every byte of memory but those at the listed addresses reads as it read. -/
def KeepsMemoryBut (but : List Word) (s t : State) : Prop :=
  ∀ addr, addr ∉ but → t.readByte addr = s.readByte addr

/-- The four latches hold what they held. -/
def KeepsLatches (s t : State) : Prop :=
  t.inte = s.inte ∧ t.halted = s.halted ∧ t.intPending = s.intPending ∧ t.intVector = s.intVector

/-- Nothing outside the registers, `F`, `SP`, `PC` and memory changed: the latches, the port events, the
draw counter. -/
def KeepsSystem (s t : State) : Prop :=
  KeepsLatches s t ∧ t.portEvents = s.portEvents ∧ t.draws = s.draws

/-- The two pointers hold what they held. -/
def KeepsPointers (s t : State) : Prop := t.sp = s.sp ∧ t.pc = s.pc

/-- Bits 1, 3 and 5 of `F` hold what they held (10_state.md R33). -/
def KeepsReservedFlags (s t : State) : Prop :=
  t.flags.b1 = s.flags.b1 ∧ t.flags.b3 = s.flags.b3 ∧ t.flags.b5 = s.flags.b5

/-- No bit of `F` but `CY` changed. -/
def KeepsFlagsButCarry (s t : State) : Prop :=
  t.flags.s = s.flags.s ∧ t.flags.z = s.flags.z ∧ t.flags.ac = s.flags.ac ∧ t.flags.p = s.flags.p ∧
    KeepsReservedFlags s t

/-! ## Flags of a result -/

/-- The number of 1 bits of a byte is even (10_state.md R29). -/
def evenOnes (v : Byte) : Bool := (List.range 8).countP (fun i => v.getLsbD i) % 2 == 0

/-- `S`, `Z` and `P` are those of the result byte (10_state.md R29, R31, R32). -/
def ResultFlags (v : Byte) (t : State) : Prop :=
  t.flags.s = v.getLsbD 7 ∧ t.flags.z = (v == 0) ∧ t.flags.p = evenOnes v

/-- From `s` to `t` the return address `s.pc` was pushed and control went to `target`, and nothing else
changed (46_control_transfer.md R261, R279). -/
def PushesReturnTo (target : Word) (s t : State) : Prop :=
  t.pc = target ∧ t.sp = s.sp - 2 ∧ t.readByte (s.sp - 2) = loByte s.pc ∧
    t.readByte (s.sp - 1) = hiByte s.pc ∧ KeepsMemoryBut [s.sp - 2, s.sp - 1] s t ∧
    KeepsRegsBut [] s t ∧ t.flags = s.flags ∧ KeepsSystem s t

/-- From `s` to `t` control returned to the address on the stack, and nothing else changed
(46_control_transfer.md R270). -/
def ReturnsFrom (s t : State) : Prop :=
  t.pc = joinBytes (s.readByte (s.sp + 1)) (s.readByte s.sp) ∧ t.sp = s.sp + 2 ∧
    KeepsMemoryBut [] s t ∧ KeepsRegsBut [] s t ∧ t.flags = s.flags ∧ KeepsSystem s t

/-- From `s` to `t` nothing changed but possibly registers in the list. -/
def ChangesRegsOnly (but : List Reg8) (s t : State) : Prop :=
  KeepsRegsBut but s t ∧ KeepsMemoryBut [] s t ∧ t.flags = s.flags ∧ KeepsPointers s t ∧
    KeepsSystem s t

/-- From `s` to `t` nothing changed but possibly bytes of memory at the listed addresses. -/
def ChangesMemoryOnly (but : List Word) (s t : State) : Prop :=
  KeepsMemoryBut but s t ∧ KeepsRegsBut [] s t ∧ t.flags = s.flags ∧ KeepsPointers s t ∧
    KeepsSystem s t

/-- From `s` to `t` nothing changed but possibly `F` and registers in the list. -/
def ChangesRegsAndFlags (but : List Reg8) (s t : State) : Prop :=
  KeepsRegsBut but s t ∧ KeepsMemoryBut [] s t ∧ KeepsPointers s t ∧ KeepsSystem s t

/-! ## Forms of results -/

/-- `v` was written to the 8-bit operand `o` of `s` and no other register or byte of memory changed; the
address of `M` is the `HL` of `s` (00_scope.md R18). -/
def WritesOperand8 (o : Operand8) (v : Byte) (s t : State) : Prop :=
  match o with
  | .reg r => t.reg r = v ∧ KeepsRegsBut [r] s t ∧ KeepsMemoryBut [] s t
  | .m => t.readByte s.hl = v ∧ KeepsMemoryBut [s.hl] s t ∧ KeepsRegsBut [] s t

/-- `v` was written to the pair `p` and no other pair, and `A`, `PC`, memory and the rest of the machine
beside `F` hold what they held (10_state.md R22 to R26). -/
def WritesPair (p : Rp) (v : Word) (s t : State) : Prop :=
  t.rp p = v ∧ (∀ q, q ≠ p → t.rp q = s.rp q) ∧ t.regs.a = s.regs.a ∧ t.pc = s.pc ∧
    KeepsMemoryBut [] s t ∧ KeepsSystem s t

/-- The flags of the 9-bit sum of `a`, `b` and `cin` whose low byte is `r` (40_alu_microops.md R136). -/
def SumFlags (a b : Byte) (cin : Bool) (r : Byte) (t : State) : Prop :=
  t.flags.cy = decide (a.toNat + b.toNat + cin.toNat > 255) ∧
    t.flags.ac = decide (a.toNat % 16 + b.toNat % 16 + cin.toNat > 15) ∧ ResultFlags r t

/-- `AC` holds the nibble borrow or its complement, by `AC_SUB` (00_scope.md R6;
40_alu_microops.md R137, R139). -/
def AcFromBorrow (borrow : Bool) (t : State) : Prop :=
  (Config.acSub = .borrow → t.flags.ac = borrow) ∧ (Config.acSub = .carry → t.flags.ac = !borrow)

/-- The flags of the 9-bit difference of `a` and `b` with the borrow `bin`, whose low byte is `r`
(40_alu_microops.md R137). -/
def DifferenceFlags (a b : Byte) (bin : Bool) (r : Byte) (t : State) : Prop :=
  t.flags.cy = decide (a.toNat < b.toNat + bin.toNat) ∧
    AcFromBorrow (decide (a.toNat % 16 < b.toNat % 16 + bin.toNat)) t ∧ ResultFlags r t

/-- `F` apart from bits 1, 3 and 5, which are taken from `r` (10_state.md R33). -/
def State.withReservedFlags (s : State) (r : Flags) : State :=
  { s with flags := { s.flags with b1 := r.b1, b3 := r.b3, b5 := r.b5 } }

end Sys2Proof.Machine

namespace Sys2Proof

/-! ## Encodings -/

/-- These bytes, whatever follows them, decode to this instruction and to nothing else. -/
def Decodes (bytes : List Byte) (i : Instr) : Prop := ∀ rest, decode (bytes ++ rest) = .ok i rest

/-- The second operand of an accumulator operation (43_arithmetic_compare.md R200,
44_logical.md R220). -/
inductive AccSource where
  | operand (o : Operand8)
  | immediate (d8 : Byte)
deriving DecidableEq, Repr

/-- The accumulator operation on a second operand. -/
def AccSource.instr (op : AccOp) : AccSource → Instr
  | .operand o => .acc op o
  | .immediate d8 => .accImm op d8

/-- The bytes of the accumulator operation on a second operand (30_encoding.md R103, R104). -/
def AccSource.bytes (op : AccOp) : AccSource → List Byte
  | .operand o => [BitVec.ofNat 8 (0x80 + 8 * op.code.toNat + o.code.toNat)]
  | .immediate d8 => [BitVec.ofNat 8 (0xC6 + 8 * op.code.toNat), d8]

/-- The value of the second operand. -/
def AccSource.value (s : Machine.State) : AccSource → Byte
  | .operand o => s.operand8 o
  | .immediate d8 => d8

/-! ## Which instructions may write what -/

/-- The rows of the flag table (10_state.md R34). -/
inductive FlagRow where
  | none | fromStack | incDec8 | arithmetic | dad | logical | rotate | daa | stc | cmc
deriving DecidableEq, Repr

/-- The row of an instruction in the flag table (10_state.md R34). -/
def Instr.flagRow : Instr → FlagRow
  | .popPSW => .fromStack
  | .inrB | .dcrB | .inrC | .dcrC | .inrD | .dcrD | .inrE | .dcrE | .inrH | .dcrH | .inrL
  | .dcrL | .inrM | .dcrM | .inrA | .dcrA => .incDec8
  | .addB | .addC | .addD | .addE | .addH | .addL | .addM | .addA | .adcB | .adcC | .adcD
  | .adcE | .adcH | .adcL | .adcM | .adcA | .subB | .subC | .subD | .subE | .subH | .subL
  | .subM | .subA | .sbbB | .sbbC | .sbbD | .sbbE | .sbbH | .sbbL | .sbbM | .sbbA | .cmpB
  | .cmpC | .cmpD | .cmpE | .cmpH | .cmpL | .cmpM | .cmpA | .adi _ | .aci _ | .sui _ | .sbi _
  | .cpi _ => .arithmetic
  | .dadB | .dadD | .dadH | .dadSP => .dad
  | .anaB | .anaC | .anaD | .anaE | .anaH | .anaL | .anaM | .anaA | .xraB | .xraC | .xraD
  | .xraE | .xraH | .xraL | .xraM | .xraA | .oraB | .oraC | .oraD | .oraE | .oraH | .oraL
  | .oraM | .oraA | .ani _ | .xri _ | .ori _ => .logical
  | .rlc | .rrc | .ral | .rar => .rotate
  | .daa => .daa
  | .stc => .stc
  | .cmc => .cmc
  | _ => .none

/-- The instructions that may store to memory (20_memory.md R70). -/
def Instr.storesToMemory : Instr → Bool
  | .staxB | .staxD | .shld _ | .sta _ | .inrM | .dcrM | .mviM _ | .movMB | .movMC | .movMD
  | .movME | .movMH | .movML | .movMA | .cnz _ | .pushB | .rst0 | .cz _ | .call _ | .rst1
  | .cnc _ | .pushD | .rst2 | .cc _ | .callDD _ | .rst3 | .xthl | .cpo _ | .pushH | .rst4
  | .cpe _ | .callED _ | .rst5 | .cp _ | .pushPSW | .rst6 | .cm _ | .callFD _ | .rst7 => true
  | _ => false

/-- The instructions that may write `SP` (10_state.md R37). -/
def Instr.mayWriteSp : Instr → Bool
  | .lxiSP _ | .inxSP | .dcxSP | .rnz | .popB | .cnz _ | .pushB | .rst0 | .rz | .ret | .cz _
  | .call _ | .rst1 | .rnc | .popD | .cnc _ | .pushD | .rst2 | .rc | .retD9 | .cc _ | .callDD _
  | .rst3 | .rpo | .popH | .cpo _ | .pushH | .rst4 | .rpe | .cpe _ | .callED _ | .rst5 | .rp
  | .popPSW | .cp _ | .pushPSW | .rst6 | .rm | .sphl | .cm _ | .callFD _ | .rst7 => true
  | _ => false

/-- The instructions that may write `PC` beyond the fetch (10_state.md R39). -/
def Instr.transfersControl : Instr → Bool
  | .rnz | .jnz _ | .jmp _ | .cnz _ | .rst0 | .rz | .ret | .jz _ | .jmpCB _ | .cz _ | .call _
  | .rst1 | .rnc | .jnc _ | .cnc _ | .rst2 | .rc | .retD9 | .jc _ | .cc _ | .callDD _ | .rst3
  | .rpo | .jpo _ | .cpo _ | .rst4 | .rpe | .pchl | .jpe _ | .cpe _ | .callED _ | .rst5 | .rp
  | .jp _ | .cp _ | .rst6 | .rm | .jm _ | .cm _ | .callFD _ | .rst7 => true
  | _ => false

end Sys2Proof
end

