-- ==== Sys2Proof/Certificates/Slice0/Obligations.lean ====
section
/-! DEFINITION. The statements for the provers. Each docstring names the rule of spec/ it formalises, or
says that it is derived and from which sections. -/

section
open Sys2Proof Sys2Proof.Machine

/-! ## Encoding -/

/-- Derived (30_encoding.md R90 to R105): decoding the bytes of a well-formed instruction, whatever
follows them, gives the instruction back, every operand included. -/
def Obligations.DecodeInvertsEncode : Prop :=
  ∀ (i : Instr) (rest : List Byte), i.wellFormed = true → decode (encode i ++ rest) = .ok i rest

/-- Derived (30_encoding.md R91, R105): every byte sequence that decodes is the encoding of the
instruction read, followed by the rest. -/
def Obligations.EncodeInvertsDecode : Prop :=
  ∀ (bytes : List Byte) (i : Instr) (rest : List Byte),
    decode bytes = .ok i rest → encode i ++ rest = bytes

/-- Derived (30_encoding.md R91, R110; log entry 8 for 0xCB): every one of the 256 opcode bytes decodes
to a well-formed instruction of that opcode; none is reserved or illegal. -/
def Obligations.EveryOpcodeByteDecodes : Prop :=
  ∀ op lo hi : Byte, ∃ i : Instr,
    decode [op, lo, hi] = .ok i ([op, lo, hi].drop i.length) ∧ i.opcode = op ∧ i.wellFormed = true

/-- Derived (30_encoding.md, how the length is told, which the spec marks as general knowledge; log
entry 14): three lists of opcode bytes fix the length, and executing an opcode byte first moves `PC`
past the operand bytes of that length, whether or not a condition holds. -/
def Obligations.LengthFollowsOpcode : Prop :=
  let three : List Byte :=
    [0x01, 0x11, 0x21, 0x31, 0x22, 0x2A, 0x32, 0x3A, 0xC2, 0xCA, 0xD2, 0xDA, 0xE2, 0xEA, 0xF2, 0xFA,
      0xC3, 0xCB, 0xC4, 0xCC, 0xD4, 0xDC, 0xE4, 0xEC, 0xF4, 0xFC, 0xCD, 0xDD, 0xED, 0xFD]
  let two : List Byte :=
    [0x06, 0x0E, 0x16, 0x1E, 0x26, 0x2E, 0x36, 0x3E, 0xC6, 0xCE, 0xD6, 0xDE, 0xE6, 0xEE, 0xF6, 0xFE,
      0xD3, 0xDB]
  three.length = 30 ∧ two.length = 18 ∧
    ∀ op : Byte,
      let length : Nat := if op ∈ three then 3 else if op ∈ two then 2 else 1
      (∀ (bytes rest : List Byte) (i : Instr),
        decode (op :: bytes) = .ok i rest → i.length = length ∧ rest = (op :: bytes).drop length) ∧
      ∀ s : State, ∃ i : Instr,
        i.opcode = op ∧ execute op s = exec i { s with pc := s.pc + BitVec.ofNat 16 (length - 1) }

/-- Derived (30_encoding.md R93, R101 to R105): words written out bit by bit decode to the instruction
they stand for. -/
def Obligations.WrittenOutWordsDecode : Prop :=
  decodeTableWord 8 0b01111000 = some .movAB ∧
  decodeTableWord 8 0b01110110 = some .hlt ∧
  decodeTableWord 16 0b0100001000111110 = some (.mviA 0x42) ∧
  decodeTableWord 24 0b000100100011010000100001 = some (.lxiH 0x1234) ∧
  decodeTableWord 8 0b10001110 = some .adcM ∧
  decodeTableWord 24 0b000100100011010011000010 = some (.jnz 0x1234) ∧
  decodeTableWord 8 0b11101111 = some .rst5 ∧
  decodeTableWord 8 0b11110001 = some .popPSW ∧
  decodeTableWord 16 0b0001000011010011 = some (.outp 0x10)

/-! ## Memory, pairs, flag bits -/

/-- Stated (20_memory.md R62, R63): a byte write replaces that byte, changes no other byte and nothing
but memory. -/
def Obligations.ByteReadAfterWrite : Prop :=
  ∀ (s : State) (a b : Word) (v : Byte),
    (s.writeByte a v).readByte a = v ∧
    (b ≠ a → (s.writeByte a v).readByte b = s.readByte b) ∧
    { s.writeByte a v with mem := s.mem } = s

/-- Derived (20_memory.md R64, R65; that the word at 0xFFFF wraps is the spec's own reading, decision
D12, log entry 16): a word access is two byte accesses, the low byte at the lower address and the high
byte at the next address modulo 65536, also at the top of memory. -/
def Obligations.WordAccessIsLittleEndian : Prop :=
  ∀ (s : State) (a b v : Word),
    (s.readWord a).toNat =
      (s.readByte (BitVec.ofNat 16 ((a.toNat + 1) % 65536))).toNat * 256 + (s.readByte a).toNat ∧
    s.writeWord a v =
      (s.writeByte a (BitVec.ofNat 8 (v.toNat % 256))).writeByte
        (BitVec.ofNat 16 ((a.toNat + 1) % 65536)) (BitVec.ofNat 8 (v.toNat / 256)) ∧
    (s.writeWord a v).readWord a = v ∧
    (b ≠ a → b ≠ BitVec.ofNat 16 ((a.toNat + 1) % 65536) →
      (s.writeWord a v).readByte b = s.readByte b) ∧
    (s.writeWord 0xFFFF v).readByte 0x0000 = hiByte v

/-- Derived (20_memory.md R60, R72; the canonical form is the model's): two canonical memories that read
the same at every address are the same data. -/
def Obligations.CanonicalMemoriesAreEqual : Prop :=
  ∀ m n : Memory, Memory.wf m → Memory.wf n →
    (∀ a : Nat, a < 65536 → Memory.lookup m a = Memory.lookup n a) → m = n

/-- Derived (10_state.md R26; which half is the high one is the spec's decision D10, log entry 15; that
the accessors are raw is its decision D19, log entry 22): a pair and its two halves are one storage,
through the accessors: `BC` = `B:C`, `DE` = `D:E`, `HL` = `H:L`, `PSW` = `A:F`; the accessors of `SP`
and `PC` store and read back a word and touch nothing else. -/
def Obligations.PairsAliasTheirHalves : Prop :=
  (∀ x ∈ [(HostWord.bc, HostByte.b, HostByte.c), (.de, .d, .e), (.hl, .h, .l), (.psw, .a, .f)],
    ∀ (s : State) (v : Word) (b : Byte),
      (s.hostReadWord x.1).toNat =
        (s.hostReadByte x.2.1).toNat * 256 + (s.hostReadByte x.2.2).toNat ∧
      (s.hostWriteWord x.1 v).hostReadByte x.2.1 = hiByte v ∧
      (s.hostWriteWord x.1 v).hostReadByte x.2.2 = loByte v ∧
      s.hostWriteWord x.1 v = (s.hostWriteByte x.2.1 (hiByte v)).hostWriteByte x.2.2 (loByte v) ∧
      (s.hostWriteByte x.2.1 b).hostReadWord x.1 = joinBytes b (s.hostReadByte x.2.2) ∧
      (s.hostWriteByte x.2.2 b).hostReadWord x.1 = joinBytes (s.hostReadByte x.2.1) b ∧
      ∀ y, (y ≠ x.2.1 → (s.hostWriteByte x.2.1 b).hostReadByte y = s.hostReadByte y) ∧
        (y ≠ x.2.2 → (s.hostWriteByte x.2.2 b).hostReadByte y = s.hostReadByte y)) ∧
  ∀ (s : State) (v : Word),
    s.hostReadWord .sp = s.sp ∧ s.hostReadWord .pc = s.pc ∧
    (s.hostWriteWord .sp v).hostReadWord .sp = v ∧ s.hostWriteWord .sp v = { s with sp := v } ∧
    (s.hostWriteWord .pc v).hostReadWord .pc = v ∧ s.hostWriteWord .pc v = { s with pc := v }

/-- Stated (10_state.md R27, R36): the flags stand at bits 0, 2, 4, 6 and 7 of `F`, and the flag-bit
accessor tests or sets any one bit of the eight and leaves the other seven alone. -/
def Obligations.FlagBitsHaveFixedPlaces : Prop :=
  ∀ (s : State) (i j : Fin 8) (b : Bool),
    s.flagGet 0 = s.flags.cy ∧ s.flagGet 2 = s.flags.p ∧ s.flagGet 4 = s.flags.ac ∧
    s.flagGet 6 = s.flags.z ∧ s.flagGet 7 = s.flags.s ∧
    s.flagGet i = (s.hostReadByte .f).getLsbD i.val ∧
    (s.flagSet i b).flagGet j = (if j = i then b else s.flagGet j) ∧
    { s.flagSet i b with flags := s.flags } = s

/-! ## Reset, the step, the interrupt -/

/-- Derived (10_state.md R50, R51, R56; the values of the latches and the absent `RESET_PC` are the
spec's decision D14, log entries 2 and 11): after reset `F` bit 1, `INTE`, `HALTED` and `INT_PENDING`
hold the values the spec gives; the registers, `SP`, `PC`, the other bits of `F`, `INT_VECTOR` and
memory hold whatever was drawn. The model's own port events are empty and its own counter is as drawn
(log entry 26). That `State.reset` draws zero is the model's choice (log entries 1, 2, 4, 6). -/
def Obligations.ResetGivesLatchesAndBitOne : Prop :=
  (∀ d : ResetDraws,
    let s := State.resetWith d
    s.flags.b1 = true ∧ s.inte = true ∧ s.halted = false ∧ s.intPending = false ∧
    s.regs = d.regs ∧ s.sp = d.sp ∧ s.pc = d.pc ∧ s.intVector = d.intVector ∧ s.mem = d.mem ∧
    s.flags = { d.flags with b1 := true } ∧ s.portEvents = [] ∧ s.draws = d.draws) ∧
  State.reset = State.resetWith ResetDraws.zero

/-- Stated (60_exceptions.md R323, R324, R325): a request is accepted when `INTE` is 1 and dropped when
it is 0, and a second request has no effect. -/
def Obligations.InterruptRequestProtocol : Prop :=
  ∀ (s : State) (v w : Byte),
    (s.inte = true →
      s.interrupt v = { s with inte := false, intVector := v, intPending := true }) ∧
    (s.inte = false → s.interrupt v = s) ∧
    (s.interrupt v).interrupt w = s.interrupt v

/-- Derived (60_exceptions.md R329; the order and the gate are the spec's decision D1, log entry 10): a
step services a pending request if the gate is open, else fetches and executes if not halted, else
changes nothing; this machine's gate is `pending_only`, the default. -/
def Obligations.StepDecidesInOrder : Prop :=
  (∀ (g : Config.IntStepGate) (s : State),
    let gate : Prop := g = .pendingOnly ∨ (g = .pendingAndInte ∧ s.inte = true)
    (s.intPending = true ∧ gate → stepUnder g s = serviceInterrupt s) ∧
    (¬(s.intPending = true ∧ gate) → s.halted = false → stepUnder g s = fetchAndExecute s) ∧
    (¬(s.intPending = true ∧ gate) → s.halted = true → stepUnder g s = .next s)) ∧
  ∀ s : State, step s = stepUnder .pendingOnly s

/-- Derived (60_exceptions.md R328; 30_encoding.md R92, R93): with nothing pending and not halted, a
step runs the instruction whose bytes stand at `PC`. That `exec` sees `PC` already past the operand
bytes is the model's choice (log entry 13); that the operand bytes are low byte first is the spec's
decision D11 (log entry 15). -/
def Obligations.StepRunsDecodedInstruction : Prop :=
  ∀ (s : State) (i : Instr) (rest : List Byte),
    s.intPending = false → s.halted = false →
    decode [s.readByte s.pc, s.readByte (s.pc + 1), s.readByte (s.pc + 2)] = .ok i rest →
    step s = exec i { s with pc := s.pc + BitVec.ofNat 16 i.length }

/-- Derived (30_encoding.md R116; 60_exceptions.md R326, R327): interrupt service clears `INTE`,
executes the vector byte without fetching it, any operand bytes being taken from memory at `PC`, and
then clears `INT_PENDING` and `HALTED`. That a pending request alone makes the step service it is
`INT_STEP_GATE = pending_only`, the model's choice of the spec's default (decision D1, log entry 10),
and false under the other gate. Operand bytes from memory: the spec's decision D17 (log entry 21); `PC`
moved before `exec`: log entry 13; that the vector 0xCB completes: log entry 8. -/
def Obligations.StepServicesPendingInterrupt : Prop :=
  ∀ (s : State) (i : Instr) (rest : List Byte), s.intPending = true →
    decode [s.intVector, s.readByte s.pc, s.readByte (s.pc + 1)] = .ok i rest →
    ∃ t, exec i { s with inte := false, pc := s.pc + BitVec.ofNat 16 (i.length - 1) } = .next t ∧
      step s = .next { t with intPending := false, halted := false }

/-- Derived (60_exceptions.md R326, R327, R334; 46_control_transfer.md R279): service with `RST n` as
vector pushes the address of the instruction that would have run next and goes to `8*n`. That a pending
request alone makes the step service it is `INT_STEP_GATE = pending_only`, the model's choice of the
spec's default (decision D1, log entry 10), and false under the other gate. -/
def Obligations.RestartVectorService : Prop :=
  ∀ (s : State) (n : Fin 8), s.intPending = true → s.intVector = BitVec.ofNat 8 (0xC7 + 8 * n.val) →
    ∃ t, step s = .next t ∧
      t.inte = false ∧ t.intPending = false ∧ t.halted = false ∧ t.intVector = s.intVector ∧
      t.pc = BitVec.ofNat 16 (8 * n.val) ∧ t.sp = s.sp - 2 ∧
      t.readByte (s.sp - 2) = loByte s.pc ∧ t.readByte (s.sp - 1) = hiByte s.pc ∧
      KeepsMemoryBut [s.sp - 2, s.sp - 1] s t ∧ KeepsRegsBut [] s t ∧ t.flags = s.flags ∧
      t.portEvents = s.portEvents ∧ t.draws = s.draws

/-- Derived (60_exceptions.md R320, R326; 70_reset_and_hazards.md R373; log entry 8 for 0xCB): every
step of every state has a next state; none faults and none is refused. -/
def Obligations.EveryStepCompletes : Prop := ∀ s : State, ∃ t, step s = .next t

/-- Derived (60_exceptions.md R324, R327, R329, from which the spec derives it): `HALTED` is cleared
only by interrupt service; halted with interrupts disabled and nothing pending, no step and no request
ever changes the state. -/
def Obligations.HaltWithInterruptsDisabledIsPermanent : Prop :=
  (∀ (s t : State) (m : Move), s.halted = true → s.apply m = .next t → t.halted = false →
    m = .step ∧ s.intPending = true) ∧
  ∀ (s : State) (moves : List Move), Hung s →
    (∀ m ∈ moves, m = .step ∨ ∃ v, m = .host (.interrupt v)) → s.run moves = .next s

/-! ## Invariants -/

/-- Derived (10_state.md R48; 20_memory.md R60; the canonical form of memory is the model's; that a
pending request implies `INTE = 0` rests on `INT_STEP_GATE = pending_only`, log entry 10): from every
state of the invariant, a step leads to a state of the invariant. -/
def Obligations.StepKeepsInvariant : Prop :=
  ∀ s t : State, Inv s → step s = .next t → Inv t

/-- Derived (10_state.md R55, R56): the invariant holds after reset, for every draw with canonical
memory and for `State.reset`. -/
def Obligations.ResetMeetsInvariant : Prop :=
  (∀ d : ResetDraws, d.wf → Inv (State.resetWith d)) ∧ Inv State.reset

/-- Derived (10_state.md R46, R48; 60_exceptions.md R338, R339, R346): every move of the host keeps the
invariant, and none but `interrupt` touches a latch. -/
def Obligations.HostMovesKeepInvariant : Prop :=
  ∀ (s : State) (m : HostMove),
    (Inv s → Inv (s.hostMove m)) ∧ ((∀ v, m ≠ .interrupt v) → KeepsLatches s (s.hostMove m))

/-- Derived (60_exceptions.md R323, R326, R327, from which the spec derives it): in every state that a
run reaches, `INT_PENDING = 1` implies `INTE = 0`. It rests on `INT_STEP_GATE = pending_only`, the
model's choice of the spec's default (decision D1, log entry 10). -/
def Obligations.PendingImpliesDisabled : Prop :=
  ∀ s : State, Reachable s → s.intPending = true → s.inte = false

/-! ## Who writes what -/

/-- Derived (10_state.md R33, R51): bits 1, 3 and 5 of `F` are forced by reset (bit 1) and by `POP PSW`
alone; no other instruction writes them, a host write stores them as given, `PUSH PSW` stores them as
they are, and no other instruction's behaviour depends on them. The last clause compares two runs, and
holds for the logical instructions and `IN` only because both draw the same free value, having the same
draw counter, which is the model's own (log entries 6 and 7); that 0xCB completes there is log entry 8. -/
def Obligations.ReservedFlagBits : Prop :=
  (∀ d : ResetDraws, (State.resetWith d).flags = { d.flags with b1 := true }) ∧
  (∀ s : State, ∃ t, exec .popPSW s = .next t ∧
    t.flags.b1 = true ∧ t.flags.b3 = false ∧ t.flags.b5 = false) ∧
  (∀ (i : Instr) (s t : State), exec i s = .next t → i ≠ .popPSW → KeepsReservedFlags s t) ∧
  (∀ (s : State) (v : Byte) (i : Fin 8) (b : Bool),
    (s.hostWriteByte .f v).flags.toByte = v ∧ (s.flagSet i b).flagGet i = b) ∧
  (∀ s : State, ∃ t, exec .pushPSW s = .next t ∧ t.readByte (s.sp - 2) = s.flags.toByte) ∧
  (∀ (s : State) (r : Flags), exec .popPSW (s.withReservedFlags r) = exec .popPSW s) ∧
  ∀ (i : Instr) (s : State) (r : Flags), i ≠ .pushPSW → i ≠ .popPSW →
    ∃ t, exec i s = .next t ∧ exec i (s.withReservedFlags r) = .next (t.withReservedFlags r)

/-- Derived (10_state.md R34): for each row of the flag table, the flags with a dash keep their value
and the constant entries are written; the entries "result" are in the statements of the instructions. -/
def Obligations.FlagTable : Prop :=
  ∀ (i : Instr) (s t : State), exec i s = .next t →
    match i.flagRow with
    | .none => t.flags = s.flags
    | .fromStack => t.flags.toByte = (s.readByte s.sp &&& 0xD7#8) ||| 0x02#8
    | .incDec8 => t.flags.cy = s.flags.cy ∧ KeepsReservedFlags s t ∧ ∃ r, ResultFlags r t
    | .arithmetic => KeepsReservedFlags s t ∧ ∃ r, ResultFlags r t
    | .dad => KeepsFlagsButCarry s t
    | .logical => t.flags.cy = false ∧ KeepsReservedFlags s t ∧ ResultFlags t.regs.a t
    | .rotate => KeepsFlagsButCarry s t ∧
        (t.flags.cy = s.regs.a.getLsbD 0 ∨ t.flags.cy = s.regs.a.getLsbD 7)
    | .daa => KeepsReservedFlags s t ∧ ResultFlags t.regs.a t ∧
        (t.flags.ac = true ∨ t.flags.ac = s.flags.ac) ∧
        (t.flags.cy = true ∨ t.flags.cy = s.flags.cy)
    | .stc => KeepsFlagsButCarry s t ∧ t.flags.cy = true
    | .cmc => KeepsFlagsButCarry s t ∧ t.flags.cy = !s.flags.cy

/-- Derived (10_state.md R40 to R43): among the instructions only `EI` and `DI` write `INTE`, only `HLT`
writes `HALTED`, and none writes `INT_PENDING` or `INT_VECTOR`. -/
def Obligations.OnlyEiDiHltWriteLatches : Prop :=
  ∀ (i : Instr) (s t : State), exec i s = .next t →
    (i ≠ .ei → i ≠ .di → t.inte = s.inte) ∧ (i ≠ .hlt → t.halted = s.halted) ∧
    t.intPending = s.intPending ∧ t.intVector = s.intVector

/-- Derived (10_state.md R37, R39): only the instructions the spec lists write `SP`, and only the
control transfers write `PC` beyond the fetch. -/
def Obligations.OnlyListedInstructionsWritePointers : Prop :=
  ∀ (i : Instr) (s t : State), exec i s = .next t →
    (i.mayWriteSp = false → t.sp = s.sp) ∧ (i.transfersControl = false → t.pc = s.pc)

/-- Derived (20_memory.md R70, R75): only the instructions the spec lists as writing memory change it,
and only `IN` and `OUT` reach the ports. -/
def Obligations.OnlyListedInstructionsReachMemoryOrPorts : Prop :=
  ∀ (i : Instr) (s t : State), exec i s = .next t →
    (i.storesToMemory = false → t.mem = s.mem) ∧
    ((∀ p, i ≠ .inp p) → (∀ p, i ≠ .outp p) → t.portEvents = s.portEvents)

/-- Derived (60_exceptions.md, `load(origin, code)`, the spec's decision D25, log entry 22): `load`
writes byte `i` of the code at `origin + i` modulo 65536, in order, and touches no flag, register or
latch. -/
def Obligations.LoadWritesBytesInOrder : Prop :=
  ∀ (s : State) (origin : Word) (code : List Byte) (v : Byte),
    s.load origin [] = s ∧
    s.load origin (code ++ [v]) =
      (s.load origin code).writeByte (BitVec.ofNat 16 ((origin.toNat + code.length) % 65536)) v ∧
    { s.load origin code with mem := s.mem } = s

/-! ## Data transfer -/

/-- Stated (41_data_transfer.md R161): `MOV r1,r2`. -/
def Obligations.MovCopiesRegister : Prop :=
  ∀ dst src : Reg8,
    Decodes [BitVec.ofNat 8 (0x40 + 8 * dst.code.toNat + src.code.toNat)] (.mov dst src) ∧
    ∀ s : State, ∃ t, exec (.mov dst src) s = .next t ∧
      t.reg dst = s.reg src ∧ ChangesRegsOnly [dst] s t

/-- Stated (41_data_transfer.md R162, R163): `MOV r,M` reads and `MOV M,r` writes the byte at `HL`. -/
def Obligations.MovMovesMemory : Prop :=
  ∀ r : Reg8,
    Decodes [BitVec.ofNat 8 (0x46 + 8 * r.code.toNat)] (.movFromM r) ∧
    Decodes [BitVec.ofNat 8 (0x70 + r.code.toNat)] (.movToM r) ∧
    (∀ s : State, ∃ t, exec (.movFromM r) s = .next t ∧
      t.reg r = s.readByte s.hl ∧ ChangesRegsOnly [r] s t) ∧
    ∀ s : State, ∃ t, exec (.movToM r) s = .next t ∧
      t.readByte s.hl = s.reg r ∧ ChangesMemoryOnly [s.hl] s t

/-- Stated (41_data_transfer.md R164, R165): `MVI r,d8` and `MVI M,d8`. -/
def Obligations.MviMovesImmediate : Prop :=
  ∀ (o : Operand8) (d8 : Byte),
    Decodes [BitVec.ofNat 8 (0x06 + 8 * o.code.toNat), d8] (.mvi o d8) ∧
    ∀ s : State, ∃ t, exec (.mvi o d8) s = .next t ∧
      WritesOperand8 o d8 s t ∧ t.flags = s.flags ∧ KeepsPointers s t ∧ KeepsSystem s t

/-- Stated (41_data_transfer.md R166): `LXI rp,d16`, the second byte to the low half. -/
def Obligations.LxiLoadsPair : Prop :=
  ∀ (p : Rp) (lo hi : Byte),
    Decodes [BitVec.ofNat 8 (0x01 + 16 * p.code.toNat), lo, hi] (.lxi p (joinBytes hi lo)) ∧
    ∀ (d16 : Word) (s : State), ∃ t, exec (.lxi p d16) s = .next t ∧
      WritesPair p d16 s t ∧ t.flags = s.flags

/-- Stated (41_data_transfer.md R167, R169): `LDA` and `LDAX` load `A` from the address given or held in
the pair. -/
def Obligations.LdaAndLdaxLoadAccumulator : Prop :=
  (∀ lo hi : Byte, Decodes [0x3A, lo, hi] (.lda (joinBytes hi lo))) ∧
  Decodes [0x0A] (.ldax .bc) ∧ Decodes [0x1A] (.ldax .de) ∧
  (∀ (a16 : Word) (s : State), ∃ t, exec (.lda a16) s = .next t ∧
    t.reg .a = s.readByte a16 ∧ ChangesRegsOnly [.a] s t) ∧
  (∀ s : State, ∃ t, exec (.ldax .bc) s = .next t ∧
    t.reg .a = s.readByte s.bc ∧ ChangesRegsOnly [.a] s t) ∧
  ∀ s : State, ∃ t, exec (.ldax .de) s = .next t ∧
    t.reg .a = s.readByte s.de ∧ ChangesRegsOnly [.a] s t

/-- Stated (41_data_transfer.md R168, R170): `STA` and `STAX` store `A` at the address given or held in
the pair. -/
def Obligations.StaAndStaxStoreAccumulator : Prop :=
  (∀ lo hi : Byte, Decodes [0x32, lo, hi] (.sta (joinBytes hi lo))) ∧
  Decodes [0x02] (.stax .bc) ∧ Decodes [0x12] (.stax .de) ∧
  (∀ (a16 : Word) (s : State), ∃ t, exec (.sta a16) s = .next t ∧
    t.readByte a16 = s.reg .a ∧ ChangesMemoryOnly [a16] s t) ∧
  (∀ s : State, ∃ t, exec (.stax .bc) s = .next t ∧
    t.readByte s.bc = s.reg .a ∧ ChangesMemoryOnly [s.bc] s t) ∧
  ∀ s : State, ∃ t, exec (.stax .de) s = .next t ∧
    t.readByte s.de = s.reg .a ∧ ChangesMemoryOnly [s.de] s t

/-- Stated (41_data_transfer.md R171, R172): `LHLD` and `SHLD` move `L` at the address and `H` at the
next address modulo 65536. -/
def Obligations.LhldAndShldMoveHl : Prop :=
  (∀ lo hi : Byte, Decodes [0x2A, lo, hi] (.lhld (joinBytes hi lo)) ∧
    Decodes [0x22, lo, hi] (.shld (joinBytes hi lo))) ∧
  (∀ (a16 : Word) (s : State), ∃ t, exec (.lhld a16) s = .next t ∧
    t.reg .l = s.readByte a16 ∧ t.reg .h = s.readByte (a16 + 1) ∧
    ChangesRegsOnly [.h, .l] s t) ∧
  ∀ (a16 : Word) (s : State), ∃ t, exec (.shld a16) s = .next t ∧
    t.readByte a16 = s.reg .l ∧ t.readByte (a16 + 1) = s.reg .h ∧
    ChangesMemoryOnly [a16, a16 + 1] s t

/-- Derived (41_data_transfer.md R173; the meanings of `XTHL` and `SPHL` are marked there as general
knowledge, log entry 28): `XCHG`, `XTHL` and `SPHL`. -/
def Obligations.XchgXthlSphl : Prop :=
  Decodes [0xEB] .xchg ∧ Decodes [0xE3] .xthl ∧ Decodes [0xF9] .sphl ∧
  ∀ s : State,
    (∃ t, exec .xchg s = .next t ∧
      t.reg .h = s.reg .d ∧ t.reg .l = s.reg .e ∧ t.reg .d = s.reg .h ∧ t.reg .e = s.reg .l ∧
      ChangesRegsOnly [.h, .l, .d, .e] s t) ∧
    (∃ t, exec .xthl s = .next t ∧
      t.reg .l = s.readByte s.sp ∧ t.reg .h = s.readByte (s.sp + 1) ∧
      t.readByte s.sp = s.reg .l ∧ t.readByte (s.sp + 1) = s.reg .h ∧
      KeepsMemoryBut [s.sp, s.sp + 1] s t ∧ KeepsRegsBut [.h, .l] s t ∧ t.flags = s.flags ∧
      KeepsPointers s t ∧ KeepsSystem s t) ∧
    exec .sphl s = .next { s with sp := s.hl }

/-! ## Increment, decrement, arithmetic, compare -/

/-- Derived (42_inc_dec.md R190, R191, R192; `AC` is the spec's decision D24, log entry 17): `INR r` and
`INR M`; `CY` is not written. -/
def Obligations.InrIncrementsOperand : Prop :=
  ∀ o : Operand8,
    Decodes [BitVec.ofNat 8 (0x04 + 8 * o.code.toNat)] (.inr o) ∧
    ∀ s : State, ∃ t, exec (.inr o) s = .next t ∧
      WritesOperand8 o (BitVec.ofNat 8 ((s.operand8 o).toNat + 1)) s t ∧
      ResultFlags (BitVec.ofNat 8 ((s.operand8 o).toNat + 1)) t ∧
      t.flags.ac = decide ((s.operand8 o).toNat % 16 = 15) ∧ t.flags.cy = s.flags.cy ∧
      KeepsReservedFlags s t ∧ KeepsPointers s t ∧ KeepsSystem s t

/-- Derived (42_inc_dec.md R190, R193, R194; `AC` is the spec's decisions D7 and D24, log entries 5 and
17): `DCR r` and `DCR M`; `CY` is not written, `AC` is for both values of `AC_SUB`. -/
def Obligations.DcrDecrementsOperand : Prop :=
  ∀ o : Operand8,
    Decodes [BitVec.ofNat 8 (0x05 + 8 * o.code.toNat)] (.dcr o) ∧
    ∀ s : State, ∃ t, exec (.dcr o) s = .next t ∧
      WritesOperand8 o (BitVec.ofNat 8 ((s.operand8 o).toNat + 255)) s t ∧
      ResultFlags (BitVec.ofNat 8 ((s.operand8 o).toNat + 255)) t ∧
      AcFromBorrow (decide ((s.operand8 o).toNat % 16 = 0)) t ∧ t.flags.cy = s.flags.cy ∧
      KeepsReservedFlags s t ∧ KeepsPointers s t ∧ KeepsSystem s t

/-- Derived (42_inc_dec.md R190; 95_test_vectors.md T2): `INR` then `DCR` of one operand restores it and
leaves `CY` alone. -/
def Obligations.InrThenDcrRestores : Prop :=
  ∀ (o : Operand8) (s : State), ∃ t u, exec (.inr o) s = .next t ∧ exec (.dcr o) t = .next u ∧
    WritesOperand8 o (s.operand8 o) s u ∧ t.flags.cy = s.flags.cy ∧ u.flags.cy = s.flags.cy

/-- Stated (42_inc_dec.md R195, R196): `INX rp` and `DCX rp` modulo 65536, no flag. -/
def Obligations.InxAndDcxCountPair : Prop :=
  ∀ p : Rp,
    Decodes [BitVec.ofNat 8 (0x03 + 16 * p.code.toNat)] (.inx p) ∧
    Decodes [BitVec.ofNat 8 (0x0B + 16 * p.code.toNat)] (.dcx p) ∧
    (∀ s : State, ∃ t, exec (.inx p) s = .next t ∧
      WritesPair p (BitVec.ofNat 16 ((s.rp p).toNat + 1)) s t ∧ t.flags = s.flags) ∧
    ∀ s : State, ∃ t, exec (.dcx p) s = .next t ∧
      WritesPair p (BitVec.ofNat 16 ((s.rp p).toNat + 65535)) s t ∧ t.flags = s.flags

/-- Derived (43_arithmetic_compare.md R201 to R204; the carry-in corner and `AC` are the spec's
decisions D5 and D6, log entry 17): `ADD`, `ADI`, and with the old `CY` as carry-in `ADC`, `ACI`. -/
def Obligations.AddsToAccumulator : Prop :=
  ∀ (src : AccSource) (carry : Bool),
    let op : AccOp := if carry then .adc else .add
    Decodes (src.bytes op) (src.instr op) ∧
    ∀ s : State,
      let cin : Bool := carry && s.flags.cy
      let r : Byte := BitVec.ofNat 8 (s.regs.a.toNat + (src.value s).toNat + cin.toNat)
      ∃ t, exec (src.instr op) s = .next t ∧
        t.reg .a = r ∧ SumFlags s.regs.a (src.value s) cin r t ∧
        KeepsReservedFlags s t ∧ ChangesRegsAndFlags [.a] s t

/-- Derived (43_arithmetic_compare.md R205 to R208; the borrow-in corner and `AC` are the spec's
decisions D5 and D7, log entries 5 and 17): `SUB`, `SUI`, and with the old `CY` as borrow-in `SBB`,
`SBI`; `AC` for both values of `AC_SUB`. -/
def Obligations.SubtractsFromAccumulator : Prop :=
  ∀ (src : AccSource) (borrow : Bool),
    let op : AccOp := if borrow then .sbb else .sub
    Decodes (src.bytes op) (src.instr op) ∧
    ∀ s : State,
      let bin : Bool := borrow && s.flags.cy
      let r : Byte := BitVec.ofNat 8 (s.regs.a.toNat + 512 - (src.value s).toNat - bin.toNat)
      ∃ t, exec (src.instr op) s = .next t ∧
        t.reg .a = r ∧ DifferenceFlags s.regs.a (src.value s) bin r t ∧
        KeepsReservedFlags s t ∧ ChangesRegsAndFlags [.a] s t

/-- Derived (43_arithmetic_compare.md R210, R211; `AC` is the spec's decision D7, log entry 5): `CMP`
and `CPI` write the flags of `A - s` and leave `A` alone; `Z` tells equality and `CY` unsigned less. -/
def Obligations.ComparesWithAccumulator : Prop :=
  ∀ src : AccSource,
    Decodes (src.bytes .cmp) (src.instr .cmp) ∧
    ∀ s : State,
      let r : Byte := BitVec.ofNat 8 (s.regs.a.toNat + 256 - (src.value s).toNat)
      ∃ t, exec (src.instr .cmp) s = .next t ∧
        DifferenceFlags s.regs.a (src.value s) false r t ∧
        t.flags.z = decide (s.regs.a = src.value s) ∧
        t.flags.cy = decide (s.regs.a.toNat < (src.value s).toNat) ∧
        KeepsReservedFlags s t ∧ ChangesRegsAndFlags [] s t

/-- Stated (43_arithmetic_compare.md R209): `DAD rp` adds the pair to `HL`, with the 17th bit in `CY`
and no other flag. -/
def Obligations.DadAddsPairToHl : Prop :=
  ∀ p : Rp,
    Decodes [BitVec.ofNat 8 (0x09 + 16 * p.code.toNat)] (.dad p) ∧
    ∀ s : State, ∃ t, exec (.dad p) s = .next t ∧
      t.hl.toNat + 65536 * t.flags.cy.toNat = s.hl.toNat + (s.rp p).toNat ∧
      WritesPair .hl t.hl s t ∧ KeepsFlagsButCarry s t

/-! ## Logical, rotate, decimal adjust, carry, complement -/

/-- Stated (44_logical.md R221 to R226): `ANA`, `ANI`, `XRA`, `XRI`, `ORA`, `ORI`: the bitwise result in
`A`, `CY` cleared, `S`, `Z`, `P` of the result. Nothing is said of `AC`, which is unconstrained; the
draw counter is the model's own (log entry 6). -/
def Obligations.LogicalOperations : Prop :=
  ∀ (src : AccSource) (x : AccOp × (Byte → Byte → Byte)),
    x ∈ [(AccOp.ana, fun a v => a &&& v), (.xra, fun a v => a ^^^ v), (.ora, fun a v => a ||| v)] →
    Decodes (src.bytes x.1) (src.instr x.1) ∧
    ∀ s : State, ∃ t, exec (src.instr x.1) s = .next t ∧
      t.reg .a = x.2 s.regs.a (src.value s) ∧ ResultFlags (x.2 s.regs.a (src.value s)) t ∧
      t.flags.cy = false ∧ KeepsReservedFlags s t ∧ KeepsRegsBut [.a] s t ∧ KeepsMemoryBut [] s t ∧
      KeepsPointers s t ∧ KeepsLatches s t ∧ t.portEvents = s.portEvents

/-- Derived (45_rotate_daa_carry.md R230, R231; the vacated bit of `RAL` and `RAR` is the spec's
decision D4, log entry 9): the four rotates, `CY` alone written; `RAL` and `RAR` shift in a 0. -/
def Obligations.RotatesShiftOneBit : Prop :=
  Decodes [0x07] .rlc ∧ Decodes [0x0F] .rrc ∧ Decodes [0x17] .ral ∧ Decodes [0x1F] .rar ∧
  ∀ s : State, ∀ x ∈
      [(Instr.rlc, 2 * s.regs.a.toNat % 256 + s.regs.a.toNat / 128, s.regs.a.getLsbD 7),
        (.rrc, s.regs.a.toNat / 2 + 128 * (s.regs.a.toNat % 2), s.regs.a.getLsbD 0),
        (.ral, 2 * s.regs.a.toNat % 256, s.regs.a.getLsbD 7),
        (.rar, s.regs.a.toNat / 2, s.regs.a.getLsbD 0)],
    ∃ t, exec x.1 s = .next t ∧
      (t.reg .a).toNat = x.2.1 ∧ t.flags.cy = x.2.2 ∧ KeepsFlagsButCarry s t ∧
      ChangesRegsAndFlags [.a] s t

/-- Derived (45_rotate_daa_carry.md, `DAA`, the spec's decision D9, log entry 18): `DAA`, the low
correction before the high one, which sees its result. -/
def Obligations.DaaAdjustsAccumulator : Prop :=
  Decodes [0x27] .daa ∧
  ∀ s : State, ∃ t a1, exec .daa s = .next t ∧
    (s.regs.a.toNat % 16 > 9 ∨ s.flags.ac = true → a1 = s.regs.a + 0x06 ∧ t.flags.ac = true) ∧
    (¬(s.regs.a.toNat % 16 > 9 ∨ s.flags.ac = true) →
      a1 = s.regs.a ∧ t.flags.ac = s.flags.ac) ∧
    (a1.toNat / 16 > 9 ∨ s.flags.cy = true → t.regs.a = a1 + 0x60 ∧ t.flags.cy = true) ∧
    (¬(a1.toNat / 16 > 9 ∨ s.flags.cy = true) → t.regs.a = a1 ∧ t.flags.cy = s.flags.cy) ∧
    ResultFlags t.regs.a t ∧ KeepsReservedFlags s t ∧ ChangesRegsAndFlags [.a] s t

/-- Derived (43_arithmetic_compare.md R201 to R204; 45_rotate_daa_carry.md R234): an addition of two
packed decimal bytes followed by `DAA` is the decimal sum, with `CY` as its hundreds, but where the
binary sum lies in 0xFA..0xFF: there the low correction wraps past 0xFF and its carry is lost, so that
`CY` is 0 and the sum is short by 160. -/
def Obligations.AddThenDaaIsDecimal : Prop :=
  ∀ (src : AccSource) (carry : Bool) (s : State),
    let dec : Byte → Nat := fun v => 10 * (v.toNat / 16) + v.toNat % 16
    let bcd : Byte → Prop := fun v => v.toNat / 16 < 10 ∧ v.toNat % 16 < 10
    let cin : Nat := (carry && s.flags.cy).toNat
    let binary : Nat := s.regs.a.toNat + (src.value s).toNat + cin
    bcd s.regs.a → bcd (src.value s) →
    ∃ t u, exec (src.instr (if carry then .adc else .add)) s = .next t ∧ exec .daa t = .next u ∧
      (0xFA ≤ binary ∧ binary ≤ 0xFF →
        dec (u.reg .a) + 160 = dec s.regs.a + dec (src.value s) + cin ∧ u.flags.cy = false) ∧
      (¬(0xFA ≤ binary ∧ binary ≤ 0xFF) →
        bcd (u.reg .a) ∧
        dec (u.reg .a) + 100 * u.flags.cy.toNat = dec s.regs.a + dec (src.value s) + cin)

/-- Stated (45_rotate_daa_carry.md R235, R236, R237): `STC`, `CMC` and `CMA`. -/
def Obligations.CarryAndComplement : Prop :=
  Decodes [0x37] .stc ∧ Decodes [0x3F] .cmc ∧ Decodes [0x2F] .cma ∧
  ∀ s : State,
    exec .stc s = .next { s with flags := { s.flags with cy := true } } ∧
    exec .cmc s = .next { s with flags := { s.flags with cy := !s.flags.cy } } ∧
    ∃ t, exec .cma s = .next t ∧ (t.reg .a).toNat = 255 - s.regs.a.toNat ∧
      ChangesRegsOnly [.a] s t

/-! ## Control transfer -/

/-- Derived (46_control_transfer.md R252 to R260; `PCHL` is marked there as general knowledge, log entry
28; 0xCB is the spec's decision D3, log entry 8): `JMP`, the eight conditional jumps by the table of
R250, `PCHL`, and 0xCB as `JMP` under the default `CB_BEHAVIOUR`. -/
def Obligations.JumpsReplacePc : Prop :=
  (∀ lo hi : Byte, Decodes [0xC3, lo, hi] (.jmp (joinBytes hi lo)) ∧
    Decodes [0xCB, lo, hi] (.jmpCB (joinBytes hi lo)) ∧
    ∀ cond : Cond, Decodes [BitVec.ofNat 8 (0xC2 + 8 * cond.code.toNat), lo, hi]
      (.jumpIf cond (joinBytes hi lo))) ∧
  Decodes [0xE9] .pchl ∧
  ∀ (s : State) (a16 : Word),
    exec (.jmp a16) s = .next { s with pc := a16 } ∧
    exec (.jmpCB a16) s = .next { s with pc := a16 } ∧
    exec .pchl s = .next { s with pc := s.hl } ∧
    ∀ x ∈ [(Cond.nz, s.flags.z = false), (.z, s.flags.z = true), (.nc, s.flags.cy = false),
        (.c, s.flags.cy = true), (.po, s.flags.p = false), (.pe, s.flags.p = true),
        (.p, s.flags.s = false), (.m, s.flags.s = true)],
      (x.2 → exec (.jumpIf x.1 a16) s = .next { s with pc := a16 }) ∧
      (¬x.2 → exec (.jumpIf x.1 a16) s = .next s)

/-- Stated (46_control_transfer.md R261 to R269, R283): `CALL`, its three aliases, and the eight
conditional calls, which push nothing when not taken. -/
def Obligations.CallsPushReturnAddress : Prop :=
  (∀ lo hi : Byte, Decodes [0xCD, lo, hi] (.call (joinBytes hi lo)) ∧
    Decodes [0xDD, lo, hi] (.callDD (joinBytes hi lo)) ∧
    Decodes [0xED, lo, hi] (.callED (joinBytes hi lo)) ∧
    Decodes [0xFD, lo, hi] (.callFD (joinBytes hi lo)) ∧
    ∀ cond : Cond, Decodes [BitVec.ofNat 8 (0xC4 + 8 * cond.code.toNat), lo, hi]
      (.callIf cond (joinBytes hi lo))) ∧
  ∀ (s : State) (a16 : Word),
    (∃ t, exec (.call a16) s = .next t ∧ PushesReturnTo a16 s t ∧
      exec (.callDD a16) s = .next t ∧ exec (.callED a16) s = .next t ∧
      exec (.callFD a16) s = .next t) ∧
    ∀ x ∈ [(Cond.nz, s.flags.z = false), (.z, s.flags.z = true), (.nc, s.flags.cy = false),
        (.c, s.flags.cy = true), (.po, s.flags.p = false), (.pe, s.flags.p = true),
        (.p, s.flags.s = false), (.m, s.flags.s = true)],
      (x.2 → ∃ t, exec (.callIf x.1 a16) s = .next t ∧ PushesReturnTo a16 s t) ∧
      (¬x.2 → exec (.callIf x.1 a16) s = .next s)

/-- Derived (46_control_transfer.md R270, R282; that an untaken return leaves the stack alone is the
spec's decision D2, log entry 19): `RET`, its alias, and the eight conditional returns, which leave the
stack and `SP` alone when not taken. -/
def Obligations.ReturnsPopPc : Prop :=
  Decodes [0xC9] .ret ∧ Decodes [0xD9] .retD9 ∧
  (∀ cond : Cond, Decodes [BitVec.ofNat 8 (0xC0 + 8 * cond.code.toNat)] (.retIf cond)) ∧
  ∀ s : State,
    (∃ t, exec .ret s = .next t ∧ ReturnsFrom s t ∧ exec .retD9 s = .next t) ∧
    ∀ x ∈ [(Cond.nz, s.flags.z = false), (.z, s.flags.z = true), (.nc, s.flags.cy = false),
        (.c, s.flags.cy = true), (.po, s.flags.p = false), (.pe, s.flags.p = true),
        (.p, s.flags.s = false), (.m, s.flags.s = true)],
      (x.2 → ∃ t, exec (.retIf x.1) s = .next t ∧ ReturnsFrom s t) ∧
      (¬x.2 → exec (.retIf x.1) s = .next s)

/-- Stated (46_control_transfer.md R279): `RST n` pushes `PC` and goes to `8*n`. -/
def Obligations.RestartPushesAndJumps : Prop :=
  ∀ n : Fin 8,
    Decodes [BitVec.ofNat 8 (0xC7 + 8 * n.val)] (.rst n) ∧
    ∀ s : State, ∃ t, exec (.rst n) s = .next t ∧
      PushesReturnTo (BitVec.ofNat 16 (8 * n.val)) s t

/-- Derived (46_control_transfer.md, untaken transfers, the spec's decision D2, log entry 19;
60_exceptions.md R328): a step of a conditional jump, call or return whose condition is false does
nothing but move `PC` past the whole instruction. -/
def Obligations.UntakenTransferOnlyAdvances : Prop :=
  ∀ (s : State) (cond : Cond) (a16 : Word) (i : Instr) (rest : List Byte),
    i = .jumpIf cond a16 ∨ i = .callIf cond a16 ∨ i = .retIf cond →
    s.intPending = false → s.halted = false → s.flags.cond cond = false →
    decode [s.readByte s.pc, s.readByte (s.pc + 1), s.readByte (s.pc + 2)] = .ok i rest →
    step s = .next { s with pc := s.pc + BitVec.ofNat 16 i.length }

/-! ## Stack -/

/-- Derived (47_stack.md R292; that `A` is the high byte of `PSW` is the spec's decision D10, log entry
15): `PUSH` stores the low half at the new `SP` and the high half above it; `PUSH PSW` stores `F` as it
stands and `A`. -/
def Obligations.PushStoresPair : Prop :=
  ∀ p : Rpq,
    Decodes [BitVec.ofNat 8 (0xC5 + 16 * p.code.toNat)] (.push p) ∧
    ∀ s : State, ∃ t, exec (.push p) s = .next t ∧
      t.sp = s.sp - 2 ∧ t.pc = s.pc ∧
      (match p with
        | .bc => t.readByte (s.sp - 2) = s.reg .c ∧ t.readByte (s.sp - 1) = s.reg .b
        | .de => t.readByte (s.sp - 2) = s.reg .e ∧ t.readByte (s.sp - 1) = s.reg .d
        | .hl => t.readByte (s.sp - 2) = s.reg .l ∧ t.readByte (s.sp - 1) = s.reg .h
        | .psw => t.readByte (s.sp - 2) = s.flags.toByte ∧ t.readByte (s.sp - 1) = s.reg .a) ∧
      KeepsMemoryBut [s.sp - 2, s.sp - 1] s t ∧ KeepsRegsBut [] s t ∧ t.flags = s.flags ∧
      KeepsSystem s t

/-- Stated (47_stack.md R294, R295): `POP` loads the low half from `SP` and the high half from above it;
`POP PSW` loads the five flags and fixes bits 1, 3 and 5. -/
def Obligations.PopLoadsPair : Prop :=
  ∀ p : Rpq,
    Decodes [BitVec.ofNat 8 (0xC1 + 16 * p.code.toNat)] (.pop p) ∧
    ∀ s : State, ∃ t, exec (.pop p) s = .next t ∧
      t.sp = s.sp + 2 ∧ t.pc = s.pc ∧
      (match p with
        | .bc => t.reg .c = s.readByte s.sp ∧ t.reg .b = s.readByte (s.sp + 1) ∧
            KeepsRegsBut [.b, .c] s t ∧ t.flags = s.flags
        | .de => t.reg .e = s.readByte s.sp ∧ t.reg .d = s.readByte (s.sp + 1) ∧
            KeepsRegsBut [.d, .e] s t ∧ t.flags = s.flags
        | .hl => t.reg .l = s.readByte s.sp ∧ t.reg .h = s.readByte (s.sp + 1) ∧
            KeepsRegsBut [.h, .l] s t ∧ t.flags = s.flags
        | .psw => t.reg .a = s.readByte (s.sp + 1) ∧ KeepsRegsBut [.a] s t ∧
            t.flags.toByte = (s.readByte s.sp &&& 0xD7#8) ||| 0x02#8 ∧
            t.flags.s = (s.readByte s.sp).getLsbD 7 ∧ t.flags.z = (s.readByte s.sp).getLsbD 6 ∧
            t.flags.ac = (s.readByte s.sp).getLsbD 4 ∧ t.flags.p = (s.readByte s.sp).getLsbD 2 ∧
            t.flags.cy = (s.readByte s.sp).getLsbD 0 ∧
            t.flags.b1 = true ∧ t.flags.b3 = false ∧ t.flags.b5 = false) ∧
      KeepsMemoryBut [] s t ∧ KeepsSystem s t

/-- Derived (47_stack.md R292, R294; 95_test_vectors.md T6): `PUSH` of one pair followed by `POP` of
another copies the pair and restores `SP`. -/
def Obligations.PushThenPopCopiesPair : Prop :=
  ∀ (p q : Rpq) (s : State), q ≠ .psw →
    ∃ t u, exec (.push p) s = .next t ∧ exec (.pop q) t = .next u ∧
      u.rpq q = s.rpq p ∧ u.sp = s.sp ∧ u.flags = s.flags

/-! ## Input, output, interrupt control, halt, no operation -/

/-- Stated (48_io_interrupt_nop.md R300, R301): `IN` puts the host's byte in `A` and makes one port
event; `OUT` makes one port event with `A` and changes nothing else. The byte of `IN` is unconstrained;
the draw counter is the model's own (log entry 7). -/
def Obligations.InAndOutReachPorts : Prop :=
  ∀ p8 : Byte,
    Decodes [0xDB, p8] (.inp p8) ∧ Decodes [0xD3, p8] (.outp p8) ∧
    (∀ s : State, ∃ t v, exec (.inp p8) s = .next t ∧
      t.reg .a = v ∧ t.portEvents = s.portEvents ++ [.inp p8 v] ∧
      KeepsRegsBut [.a] s t ∧ t.flags = s.flags ∧ KeepsMemoryBut [] s t ∧ KeepsPointers s t ∧
      KeepsLatches s t) ∧
    ∀ s : State, exec (.outp p8) s =
      .next { s with portEvents := s.portEvents ++ [.out p8 s.regs.a] }

/-- Derived (48_io_interrupt_nop.md R302, R304, R305, R306; that `EI` acts at once is the spec's
decision D16, log entry 20): `DI`, `EI`, `HLT`, `NOP` and its seven aliases. -/
def Obligations.DiEiHltNop : Prop :=
  Decodes [0xF3] .di ∧ Decodes [0xFB] .ei ∧ Decodes [0x76] .hlt ∧ Decodes [0x00] .nop ∧
  (∀ n : Fin 7, Decodes [BitVec.ofNat 8 (8 * (n.val + 1))] (.nopAlias n)) ∧
  ∀ s : State,
    exec .di s = .next { s with inte := false } ∧
    exec .ei s = .next { s with inte := true } ∧
    exec .hlt s = .next { s with halted := true } ∧
    exec .nop s = .next s ∧
    ∀ n : Fin 7, exec (.nopAlias n) s = .next s

/-! ## Fetch and store -/

/-- Derived (20_memory.md R82; 70_reset_and_hazards.md R368): a byte that `MOV M,r` stores just after
its own opcode is the opcode of the next step. -/
def Obligations.StoreIsSeenByNextFetch : Prop :=
  ∀ (s : State) (r : Reg8), s.intPending = false → s.halted = false →
    s.readByte s.pc = BitVec.ofNat 8 (0x70 + r.code.toNat) → s.hl = s.pc + 1 →
    ∃ t, step s = .next t ∧ t.pc = s.pc + 1 ∧ t.readByte t.pc = s.reg r ∧
      ∀ (i : Instr) (rest : List Byte),
        decode [s.reg r, t.readByte (t.pc + 1), t.readByte (t.pc + 2)] = .ok i rest →
        step t = exec i { t with pc := t.pc + BitVec.ofNat 16 i.length }

end
end

