-- ==== Sys2Proof/Laws/PerInstr.lean ====
section
/-! SUPPORT. Statements made for each instruction: the form of its encoding, and what follows from it for
the decoder. -/

namespace Sys2Proof.Laws

/-- The opcode map holds, at an instruction's opcode byte, the form whose operand bytes the encoder gives
and which makes the instruction from its operand (30_encoding.md R90, R105). -/
def EncodedForm.Statement (i : Instr) : Prop :=
  (opcodeForm i.opcode = .alone i ∧ i.operandBytes = []) ∨
  (∃ k d, opcodeForm i.opcode = .withByte k ∧ i = k d ∧ i.operandBytes = [d]) ∨
  (∃ k w, opcodeForm i.opcode = .withWord k ∧ i = k w ∧ i.operandBytes = wordBytes w)

/-- Format F1, from the opcode byte's value (30_encoding.md R90). -/
theorem encodedForm_alone {i : Instr} (op : Byte) (h : i.opcode = op)
    (hf : opcodeForm op = .alone i) (hb : i.operandBytes = []) : EncodedForm.Statement i :=
  .inl ⟨h.symm ▸ hf, hb⟩

/-- Format F2, from the opcode byte's value (30_encoding.md R90). -/
theorem encodedForm_withByte (op : Byte) (k : Byte → Instr) (d : Byte) (h : (k d).opcode = op)
    (hf : opcodeForm op = .withByte k) (hb : (k d).operandBytes = [d]) :
    EncodedForm.Statement (k d) := .inr (.inl ⟨k, d, h.symm ▸ hf, rfl, hb⟩)

/-- Format F3, from the opcode byte's value (30_encoding.md R90). -/
theorem encodedForm_withWord (op : Byte) (k : Word → Instr) (w : Word) (h : (k w).opcode = op)
    (hf : opcodeForm op = .withWord k) (hb : (k w).operandBytes = wordBytes w) :
    EncodedForm.Statement (k w) := .inr (.inr ⟨k, w, h.symm ▸ hf, rfl, hb⟩)

theorem EncodedForm.nop : EncodedForm.Statement .nop :=
  encodedForm_alone 0x00 rfl rfl rfl
theorem EncodedForm.lxiB (d16 : Word) : EncodedForm.Statement (.lxiB d16) :=
  encodedForm_withWord 0x01 .lxiB d16 rfl rfl rfl
theorem EncodedForm.staxB : EncodedForm.Statement .staxB :=
  encodedForm_alone 0x02 rfl rfl rfl
theorem EncodedForm.inxB : EncodedForm.Statement .inxB :=
  encodedForm_alone 0x03 rfl rfl rfl
theorem EncodedForm.inrB : EncodedForm.Statement .inrB :=
  encodedForm_alone 0x04 rfl rfl rfl
theorem EncodedForm.dcrB : EncodedForm.Statement .dcrB :=
  encodedForm_alone 0x05 rfl rfl rfl
theorem EncodedForm.mviB (d8 : Byte) : EncodedForm.Statement (.mviB d8) :=
  encodedForm_withByte 0x06 .mviB d8 rfl rfl rfl
theorem EncodedForm.rlc : EncodedForm.Statement .rlc :=
  encodedForm_alone 0x07 rfl rfl rfl
theorem EncodedForm.nop08 : EncodedForm.Statement .nop08 :=
  encodedForm_alone 0x08 rfl rfl rfl
theorem EncodedForm.dadB : EncodedForm.Statement .dadB :=
  encodedForm_alone 0x09 rfl rfl rfl
theorem EncodedForm.ldaxB : EncodedForm.Statement .ldaxB :=
  encodedForm_alone 0x0A rfl rfl rfl
theorem EncodedForm.dcxB : EncodedForm.Statement .dcxB :=
  encodedForm_alone 0x0B rfl rfl rfl
theorem EncodedForm.inrC : EncodedForm.Statement .inrC :=
  encodedForm_alone 0x0C rfl rfl rfl
theorem EncodedForm.dcrC : EncodedForm.Statement .dcrC :=
  encodedForm_alone 0x0D rfl rfl rfl
theorem EncodedForm.mviC (d8 : Byte) : EncodedForm.Statement (.mviC d8) :=
  encodedForm_withByte 0x0E .mviC d8 rfl rfl rfl
theorem EncodedForm.rrc : EncodedForm.Statement .rrc :=
  encodedForm_alone 0x0F rfl rfl rfl
theorem EncodedForm.nop10 : EncodedForm.Statement .nop10 :=
  encodedForm_alone 0x10 rfl rfl rfl
theorem EncodedForm.lxiD (d16 : Word) : EncodedForm.Statement (.lxiD d16) :=
  encodedForm_withWord 0x11 .lxiD d16 rfl rfl rfl
theorem EncodedForm.staxD : EncodedForm.Statement .staxD :=
  encodedForm_alone 0x12 rfl rfl rfl
theorem EncodedForm.inxD : EncodedForm.Statement .inxD :=
  encodedForm_alone 0x13 rfl rfl rfl
theorem EncodedForm.inrD : EncodedForm.Statement .inrD :=
  encodedForm_alone 0x14 rfl rfl rfl
theorem EncodedForm.dcrD : EncodedForm.Statement .dcrD :=
  encodedForm_alone 0x15 rfl rfl rfl
theorem EncodedForm.mviD (d8 : Byte) : EncodedForm.Statement (.mviD d8) :=
  encodedForm_withByte 0x16 .mviD d8 rfl rfl rfl
theorem EncodedForm.ral : EncodedForm.Statement .ral :=
  encodedForm_alone 0x17 rfl rfl rfl
theorem EncodedForm.nop18 : EncodedForm.Statement .nop18 :=
  encodedForm_alone 0x18 rfl rfl rfl
theorem EncodedForm.dadD : EncodedForm.Statement .dadD :=
  encodedForm_alone 0x19 rfl rfl rfl
theorem EncodedForm.ldaxD : EncodedForm.Statement .ldaxD :=
  encodedForm_alone 0x1A rfl rfl rfl
theorem EncodedForm.dcxD : EncodedForm.Statement .dcxD :=
  encodedForm_alone 0x1B rfl rfl rfl
theorem EncodedForm.inrE : EncodedForm.Statement .inrE :=
  encodedForm_alone 0x1C rfl rfl rfl
theorem EncodedForm.dcrE : EncodedForm.Statement .dcrE :=
  encodedForm_alone 0x1D rfl rfl rfl
theorem EncodedForm.mviE (d8 : Byte) : EncodedForm.Statement (.mviE d8) :=
  encodedForm_withByte 0x1E .mviE d8 rfl rfl rfl
theorem EncodedForm.rar : EncodedForm.Statement .rar :=
  encodedForm_alone 0x1F rfl rfl rfl
theorem EncodedForm.nop20 : EncodedForm.Statement .nop20 :=
  encodedForm_alone 0x20 rfl rfl rfl
theorem EncodedForm.lxiH (d16 : Word) : EncodedForm.Statement (.lxiH d16) :=
  encodedForm_withWord 0x21 .lxiH d16 rfl rfl rfl
theorem EncodedForm.shld (a16 : Word) : EncodedForm.Statement (.shld a16) :=
  encodedForm_withWord 0x22 .shld a16 rfl rfl rfl
theorem EncodedForm.inxH : EncodedForm.Statement .inxH :=
  encodedForm_alone 0x23 rfl rfl rfl
theorem EncodedForm.inrH : EncodedForm.Statement .inrH :=
  encodedForm_alone 0x24 rfl rfl rfl
theorem EncodedForm.dcrH : EncodedForm.Statement .dcrH :=
  encodedForm_alone 0x25 rfl rfl rfl
theorem EncodedForm.mviH (d8 : Byte) : EncodedForm.Statement (.mviH d8) :=
  encodedForm_withByte 0x26 .mviH d8 rfl rfl rfl
theorem EncodedForm.daa : EncodedForm.Statement .daa :=
  encodedForm_alone 0x27 rfl rfl rfl
theorem EncodedForm.nop28 : EncodedForm.Statement .nop28 :=
  encodedForm_alone 0x28 rfl rfl rfl
theorem EncodedForm.dadH : EncodedForm.Statement .dadH :=
  encodedForm_alone 0x29 rfl rfl rfl
theorem EncodedForm.lhld (a16 : Word) : EncodedForm.Statement (.lhld a16) :=
  encodedForm_withWord 0x2A .lhld a16 rfl rfl rfl
theorem EncodedForm.dcxH : EncodedForm.Statement .dcxH :=
  encodedForm_alone 0x2B rfl rfl rfl
theorem EncodedForm.inrL : EncodedForm.Statement .inrL :=
  encodedForm_alone 0x2C rfl rfl rfl
theorem EncodedForm.dcrL : EncodedForm.Statement .dcrL :=
  encodedForm_alone 0x2D rfl rfl rfl
theorem EncodedForm.mviL (d8 : Byte) : EncodedForm.Statement (.mviL d8) :=
  encodedForm_withByte 0x2E .mviL d8 rfl rfl rfl
theorem EncodedForm.cma : EncodedForm.Statement .cma :=
  encodedForm_alone 0x2F rfl rfl rfl
theorem EncodedForm.nop30 : EncodedForm.Statement .nop30 :=
  encodedForm_alone 0x30 rfl rfl rfl
theorem EncodedForm.lxiSP (d16 : Word) : EncodedForm.Statement (.lxiSP d16) :=
  encodedForm_withWord 0x31 .lxiSP d16 rfl rfl rfl
theorem EncodedForm.sta (a16 : Word) : EncodedForm.Statement (.sta a16) :=
  encodedForm_withWord 0x32 .sta a16 rfl rfl rfl
theorem EncodedForm.inxSP : EncodedForm.Statement .inxSP :=
  encodedForm_alone 0x33 rfl rfl rfl
theorem EncodedForm.inrM : EncodedForm.Statement .inrM :=
  encodedForm_alone 0x34 rfl rfl rfl
theorem EncodedForm.dcrM : EncodedForm.Statement .dcrM :=
  encodedForm_alone 0x35 rfl rfl rfl
theorem EncodedForm.mviM (d8 : Byte) : EncodedForm.Statement (.mviM d8) :=
  encodedForm_withByte 0x36 .mviM d8 rfl rfl rfl
theorem EncodedForm.stc : EncodedForm.Statement .stc :=
  encodedForm_alone 0x37 rfl rfl rfl
theorem EncodedForm.nop38 : EncodedForm.Statement .nop38 :=
  encodedForm_alone 0x38 rfl rfl rfl
theorem EncodedForm.dadSP : EncodedForm.Statement .dadSP :=
  encodedForm_alone 0x39 rfl rfl rfl
theorem EncodedForm.lda (a16 : Word) : EncodedForm.Statement (.lda a16) :=
  encodedForm_withWord 0x3A .lda a16 rfl rfl rfl
theorem EncodedForm.dcxSP : EncodedForm.Statement .dcxSP :=
  encodedForm_alone 0x3B rfl rfl rfl
theorem EncodedForm.inrA : EncodedForm.Statement .inrA :=
  encodedForm_alone 0x3C rfl rfl rfl
theorem EncodedForm.dcrA : EncodedForm.Statement .dcrA :=
  encodedForm_alone 0x3D rfl rfl rfl
theorem EncodedForm.mviA (d8 : Byte) : EncodedForm.Statement (.mviA d8) :=
  encodedForm_withByte 0x3E .mviA d8 rfl rfl rfl
theorem EncodedForm.cmc : EncodedForm.Statement .cmc :=
  encodedForm_alone 0x3F rfl rfl rfl
theorem EncodedForm.movBB : EncodedForm.Statement .movBB :=
  encodedForm_alone 0x40 rfl rfl rfl
theorem EncodedForm.movBC : EncodedForm.Statement .movBC :=
  encodedForm_alone 0x41 rfl rfl rfl
theorem EncodedForm.movBD : EncodedForm.Statement .movBD :=
  encodedForm_alone 0x42 rfl rfl rfl
theorem EncodedForm.movBE : EncodedForm.Statement .movBE :=
  encodedForm_alone 0x43 rfl rfl rfl
theorem EncodedForm.movBH : EncodedForm.Statement .movBH :=
  encodedForm_alone 0x44 rfl rfl rfl
theorem EncodedForm.movBL : EncodedForm.Statement .movBL :=
  encodedForm_alone 0x45 rfl rfl rfl
theorem EncodedForm.movBM : EncodedForm.Statement .movBM :=
  encodedForm_alone 0x46 rfl rfl rfl
theorem EncodedForm.movBA : EncodedForm.Statement .movBA :=
  encodedForm_alone 0x47 rfl rfl rfl
theorem EncodedForm.movCB : EncodedForm.Statement .movCB :=
  encodedForm_alone 0x48 rfl rfl rfl
theorem EncodedForm.movCC : EncodedForm.Statement .movCC :=
  encodedForm_alone 0x49 rfl rfl rfl
theorem EncodedForm.movCD : EncodedForm.Statement .movCD :=
  encodedForm_alone 0x4A rfl rfl rfl
theorem EncodedForm.movCE : EncodedForm.Statement .movCE :=
  encodedForm_alone 0x4B rfl rfl rfl
theorem EncodedForm.movCH : EncodedForm.Statement .movCH :=
  encodedForm_alone 0x4C rfl rfl rfl
theorem EncodedForm.movCL : EncodedForm.Statement .movCL :=
  encodedForm_alone 0x4D rfl rfl rfl
theorem EncodedForm.movCM : EncodedForm.Statement .movCM :=
  encodedForm_alone 0x4E rfl rfl rfl
theorem EncodedForm.movCA : EncodedForm.Statement .movCA :=
  encodedForm_alone 0x4F rfl rfl rfl
theorem EncodedForm.movDB : EncodedForm.Statement .movDB :=
  encodedForm_alone 0x50 rfl rfl rfl
theorem EncodedForm.movDC : EncodedForm.Statement .movDC :=
  encodedForm_alone 0x51 rfl rfl rfl
theorem EncodedForm.movDD : EncodedForm.Statement .movDD :=
  encodedForm_alone 0x52 rfl rfl rfl
theorem EncodedForm.movDE : EncodedForm.Statement .movDE :=
  encodedForm_alone 0x53 rfl rfl rfl
theorem EncodedForm.movDH : EncodedForm.Statement .movDH :=
  encodedForm_alone 0x54 rfl rfl rfl
theorem EncodedForm.movDL : EncodedForm.Statement .movDL :=
  encodedForm_alone 0x55 rfl rfl rfl
theorem EncodedForm.movDM : EncodedForm.Statement .movDM :=
  encodedForm_alone 0x56 rfl rfl rfl
theorem EncodedForm.movDA : EncodedForm.Statement .movDA :=
  encodedForm_alone 0x57 rfl rfl rfl
theorem EncodedForm.movEB : EncodedForm.Statement .movEB :=
  encodedForm_alone 0x58 rfl rfl rfl
theorem EncodedForm.movEC : EncodedForm.Statement .movEC :=
  encodedForm_alone 0x59 rfl rfl rfl
theorem EncodedForm.movED : EncodedForm.Statement .movED :=
  encodedForm_alone 0x5A rfl rfl rfl
theorem EncodedForm.movEE : EncodedForm.Statement .movEE :=
  encodedForm_alone 0x5B rfl rfl rfl
theorem EncodedForm.movEH : EncodedForm.Statement .movEH :=
  encodedForm_alone 0x5C rfl rfl rfl
theorem EncodedForm.movEL : EncodedForm.Statement .movEL :=
  encodedForm_alone 0x5D rfl rfl rfl
theorem EncodedForm.movEM : EncodedForm.Statement .movEM :=
  encodedForm_alone 0x5E rfl rfl rfl
theorem EncodedForm.movEA : EncodedForm.Statement .movEA :=
  encodedForm_alone 0x5F rfl rfl rfl
theorem EncodedForm.movHB : EncodedForm.Statement .movHB :=
  encodedForm_alone 0x60 rfl rfl rfl
theorem EncodedForm.movHC : EncodedForm.Statement .movHC :=
  encodedForm_alone 0x61 rfl rfl rfl
theorem EncodedForm.movHD : EncodedForm.Statement .movHD :=
  encodedForm_alone 0x62 rfl rfl rfl
theorem EncodedForm.movHE : EncodedForm.Statement .movHE :=
  encodedForm_alone 0x63 rfl rfl rfl
theorem EncodedForm.movHH : EncodedForm.Statement .movHH :=
  encodedForm_alone 0x64 rfl rfl rfl
theorem EncodedForm.movHL : EncodedForm.Statement .movHL :=
  encodedForm_alone 0x65 rfl rfl rfl
theorem EncodedForm.movHM : EncodedForm.Statement .movHM :=
  encodedForm_alone 0x66 rfl rfl rfl
theorem EncodedForm.movHA : EncodedForm.Statement .movHA :=
  encodedForm_alone 0x67 rfl rfl rfl
theorem EncodedForm.movLB : EncodedForm.Statement .movLB :=
  encodedForm_alone 0x68 rfl rfl rfl
theorem EncodedForm.movLC : EncodedForm.Statement .movLC :=
  encodedForm_alone 0x69 rfl rfl rfl
theorem EncodedForm.movLD : EncodedForm.Statement .movLD :=
  encodedForm_alone 0x6A rfl rfl rfl
theorem EncodedForm.movLE : EncodedForm.Statement .movLE :=
  encodedForm_alone 0x6B rfl rfl rfl
theorem EncodedForm.movLH : EncodedForm.Statement .movLH :=
  encodedForm_alone 0x6C rfl rfl rfl
theorem EncodedForm.movLL : EncodedForm.Statement .movLL :=
  encodedForm_alone 0x6D rfl rfl rfl
theorem EncodedForm.movLM : EncodedForm.Statement .movLM :=
  encodedForm_alone 0x6E rfl rfl rfl
theorem EncodedForm.movLA : EncodedForm.Statement .movLA :=
  encodedForm_alone 0x6F rfl rfl rfl
theorem EncodedForm.movMB : EncodedForm.Statement .movMB :=
  encodedForm_alone 0x70 rfl rfl rfl
theorem EncodedForm.movMC : EncodedForm.Statement .movMC :=
  encodedForm_alone 0x71 rfl rfl rfl
theorem EncodedForm.movMD : EncodedForm.Statement .movMD :=
  encodedForm_alone 0x72 rfl rfl rfl
theorem EncodedForm.movME : EncodedForm.Statement .movME :=
  encodedForm_alone 0x73 rfl rfl rfl
theorem EncodedForm.movMH : EncodedForm.Statement .movMH :=
  encodedForm_alone 0x74 rfl rfl rfl
theorem EncodedForm.movML : EncodedForm.Statement .movML :=
  encodedForm_alone 0x75 rfl rfl rfl
theorem EncodedForm.hlt : EncodedForm.Statement .hlt :=
  encodedForm_alone 0x76 rfl rfl rfl
theorem EncodedForm.movMA : EncodedForm.Statement .movMA :=
  encodedForm_alone 0x77 rfl rfl rfl
theorem EncodedForm.movAB : EncodedForm.Statement .movAB :=
  encodedForm_alone 0x78 rfl rfl rfl
theorem EncodedForm.movAC : EncodedForm.Statement .movAC :=
  encodedForm_alone 0x79 rfl rfl rfl
theorem EncodedForm.movAD : EncodedForm.Statement .movAD :=
  encodedForm_alone 0x7A rfl rfl rfl
theorem EncodedForm.movAE : EncodedForm.Statement .movAE :=
  encodedForm_alone 0x7B rfl rfl rfl
theorem EncodedForm.movAH : EncodedForm.Statement .movAH :=
  encodedForm_alone 0x7C rfl rfl rfl
theorem EncodedForm.movAL : EncodedForm.Statement .movAL :=
  encodedForm_alone 0x7D rfl rfl rfl
theorem EncodedForm.movAM : EncodedForm.Statement .movAM :=
  encodedForm_alone 0x7E rfl rfl rfl
theorem EncodedForm.movAA : EncodedForm.Statement .movAA :=
  encodedForm_alone 0x7F rfl rfl rfl
theorem EncodedForm.addB : EncodedForm.Statement .addB :=
  encodedForm_alone 0x80 rfl rfl rfl
theorem EncodedForm.addC : EncodedForm.Statement .addC :=
  encodedForm_alone 0x81 rfl rfl rfl
theorem EncodedForm.addD : EncodedForm.Statement .addD :=
  encodedForm_alone 0x82 rfl rfl rfl
theorem EncodedForm.addE : EncodedForm.Statement .addE :=
  encodedForm_alone 0x83 rfl rfl rfl
theorem EncodedForm.addH : EncodedForm.Statement .addH :=
  encodedForm_alone 0x84 rfl rfl rfl
theorem EncodedForm.addL : EncodedForm.Statement .addL :=
  encodedForm_alone 0x85 rfl rfl rfl
theorem EncodedForm.addM : EncodedForm.Statement .addM :=
  encodedForm_alone 0x86 rfl rfl rfl
theorem EncodedForm.addA : EncodedForm.Statement .addA :=
  encodedForm_alone 0x87 rfl rfl rfl
theorem EncodedForm.adcB : EncodedForm.Statement .adcB :=
  encodedForm_alone 0x88 rfl rfl rfl
theorem EncodedForm.adcC : EncodedForm.Statement .adcC :=
  encodedForm_alone 0x89 rfl rfl rfl
theorem EncodedForm.adcD : EncodedForm.Statement .adcD :=
  encodedForm_alone 0x8A rfl rfl rfl
theorem EncodedForm.adcE : EncodedForm.Statement .adcE :=
  encodedForm_alone 0x8B rfl rfl rfl
theorem EncodedForm.adcH : EncodedForm.Statement .adcH :=
  encodedForm_alone 0x8C rfl rfl rfl
theorem EncodedForm.adcL : EncodedForm.Statement .adcL :=
  encodedForm_alone 0x8D rfl rfl rfl
theorem EncodedForm.adcM : EncodedForm.Statement .adcM :=
  encodedForm_alone 0x8E rfl rfl rfl
theorem EncodedForm.adcA : EncodedForm.Statement .adcA :=
  encodedForm_alone 0x8F rfl rfl rfl
theorem EncodedForm.subB : EncodedForm.Statement .subB :=
  encodedForm_alone 0x90 rfl rfl rfl
theorem EncodedForm.subC : EncodedForm.Statement .subC :=
  encodedForm_alone 0x91 rfl rfl rfl
theorem EncodedForm.subD : EncodedForm.Statement .subD :=
  encodedForm_alone 0x92 rfl rfl rfl
theorem EncodedForm.subE : EncodedForm.Statement .subE :=
  encodedForm_alone 0x93 rfl rfl rfl
theorem EncodedForm.subH : EncodedForm.Statement .subH :=
  encodedForm_alone 0x94 rfl rfl rfl
theorem EncodedForm.subL : EncodedForm.Statement .subL :=
  encodedForm_alone 0x95 rfl rfl rfl
theorem EncodedForm.subM : EncodedForm.Statement .subM :=
  encodedForm_alone 0x96 rfl rfl rfl
theorem EncodedForm.subA : EncodedForm.Statement .subA :=
  encodedForm_alone 0x97 rfl rfl rfl
theorem EncodedForm.sbbB : EncodedForm.Statement .sbbB :=
  encodedForm_alone 0x98 rfl rfl rfl
theorem EncodedForm.sbbC : EncodedForm.Statement .sbbC :=
  encodedForm_alone 0x99 rfl rfl rfl
theorem EncodedForm.sbbD : EncodedForm.Statement .sbbD :=
  encodedForm_alone 0x9A rfl rfl rfl
theorem EncodedForm.sbbE : EncodedForm.Statement .sbbE :=
  encodedForm_alone 0x9B rfl rfl rfl
theorem EncodedForm.sbbH : EncodedForm.Statement .sbbH :=
  encodedForm_alone 0x9C rfl rfl rfl
theorem EncodedForm.sbbL : EncodedForm.Statement .sbbL :=
  encodedForm_alone 0x9D rfl rfl rfl
theorem EncodedForm.sbbM : EncodedForm.Statement .sbbM :=
  encodedForm_alone 0x9E rfl rfl rfl
theorem EncodedForm.sbbA : EncodedForm.Statement .sbbA :=
  encodedForm_alone 0x9F rfl rfl rfl
theorem EncodedForm.anaB : EncodedForm.Statement .anaB :=
  encodedForm_alone 0xA0 rfl rfl rfl
theorem EncodedForm.anaC : EncodedForm.Statement .anaC :=
  encodedForm_alone 0xA1 rfl rfl rfl
theorem EncodedForm.anaD : EncodedForm.Statement .anaD :=
  encodedForm_alone 0xA2 rfl rfl rfl
theorem EncodedForm.anaE : EncodedForm.Statement .anaE :=
  encodedForm_alone 0xA3 rfl rfl rfl
theorem EncodedForm.anaH : EncodedForm.Statement .anaH :=
  encodedForm_alone 0xA4 rfl rfl rfl
theorem EncodedForm.anaL : EncodedForm.Statement .anaL :=
  encodedForm_alone 0xA5 rfl rfl rfl
theorem EncodedForm.anaM : EncodedForm.Statement .anaM :=
  encodedForm_alone 0xA6 rfl rfl rfl
theorem EncodedForm.anaA : EncodedForm.Statement .anaA :=
  encodedForm_alone 0xA7 rfl rfl rfl
theorem EncodedForm.xraB : EncodedForm.Statement .xraB :=
  encodedForm_alone 0xA8 rfl rfl rfl
theorem EncodedForm.xraC : EncodedForm.Statement .xraC :=
  encodedForm_alone 0xA9 rfl rfl rfl
theorem EncodedForm.xraD : EncodedForm.Statement .xraD :=
  encodedForm_alone 0xAA rfl rfl rfl
theorem EncodedForm.xraE : EncodedForm.Statement .xraE :=
  encodedForm_alone 0xAB rfl rfl rfl
theorem EncodedForm.xraH : EncodedForm.Statement .xraH :=
  encodedForm_alone 0xAC rfl rfl rfl
theorem EncodedForm.xraL : EncodedForm.Statement .xraL :=
  encodedForm_alone 0xAD rfl rfl rfl
theorem EncodedForm.xraM : EncodedForm.Statement .xraM :=
  encodedForm_alone 0xAE rfl rfl rfl
theorem EncodedForm.xraA : EncodedForm.Statement .xraA :=
  encodedForm_alone 0xAF rfl rfl rfl
theorem EncodedForm.oraB : EncodedForm.Statement .oraB :=
  encodedForm_alone 0xB0 rfl rfl rfl
theorem EncodedForm.oraC : EncodedForm.Statement .oraC :=
  encodedForm_alone 0xB1 rfl rfl rfl
theorem EncodedForm.oraD : EncodedForm.Statement .oraD :=
  encodedForm_alone 0xB2 rfl rfl rfl
theorem EncodedForm.oraE : EncodedForm.Statement .oraE :=
  encodedForm_alone 0xB3 rfl rfl rfl
theorem EncodedForm.oraH : EncodedForm.Statement .oraH :=
  encodedForm_alone 0xB4 rfl rfl rfl
theorem EncodedForm.oraL : EncodedForm.Statement .oraL :=
  encodedForm_alone 0xB5 rfl rfl rfl
theorem EncodedForm.oraM : EncodedForm.Statement .oraM :=
  encodedForm_alone 0xB6 rfl rfl rfl
theorem EncodedForm.oraA : EncodedForm.Statement .oraA :=
  encodedForm_alone 0xB7 rfl rfl rfl
theorem EncodedForm.cmpB : EncodedForm.Statement .cmpB :=
  encodedForm_alone 0xB8 rfl rfl rfl
theorem EncodedForm.cmpC : EncodedForm.Statement .cmpC :=
  encodedForm_alone 0xB9 rfl rfl rfl
theorem EncodedForm.cmpD : EncodedForm.Statement .cmpD :=
  encodedForm_alone 0xBA rfl rfl rfl
theorem EncodedForm.cmpE : EncodedForm.Statement .cmpE :=
  encodedForm_alone 0xBB rfl rfl rfl
theorem EncodedForm.cmpH : EncodedForm.Statement .cmpH :=
  encodedForm_alone 0xBC rfl rfl rfl
theorem EncodedForm.cmpL : EncodedForm.Statement .cmpL :=
  encodedForm_alone 0xBD rfl rfl rfl
theorem EncodedForm.cmpM : EncodedForm.Statement .cmpM :=
  encodedForm_alone 0xBE rfl rfl rfl
theorem EncodedForm.cmpA : EncodedForm.Statement .cmpA :=
  encodedForm_alone 0xBF rfl rfl rfl
theorem EncodedForm.rnz : EncodedForm.Statement .rnz :=
  encodedForm_alone 0xC0 rfl rfl rfl
theorem EncodedForm.popB : EncodedForm.Statement .popB :=
  encodedForm_alone 0xC1 rfl rfl rfl
theorem EncodedForm.jnz (a16 : Word) : EncodedForm.Statement (.jnz a16) :=
  encodedForm_withWord 0xC2 .jnz a16 rfl rfl rfl
theorem EncodedForm.jmp (a16 : Word) : EncodedForm.Statement (.jmp a16) :=
  encodedForm_withWord 0xC3 .jmp a16 rfl rfl rfl
theorem EncodedForm.cnz (a16 : Word) : EncodedForm.Statement (.cnz a16) :=
  encodedForm_withWord 0xC4 .cnz a16 rfl rfl rfl
theorem EncodedForm.pushB : EncodedForm.Statement .pushB :=
  encodedForm_alone 0xC5 rfl rfl rfl
theorem EncodedForm.adi (d8 : Byte) : EncodedForm.Statement (.adi d8) :=
  encodedForm_withByte 0xC6 .adi d8 rfl rfl rfl
theorem EncodedForm.rst0 : EncodedForm.Statement .rst0 :=
  encodedForm_alone 0xC7 rfl rfl rfl
theorem EncodedForm.rz : EncodedForm.Statement .rz :=
  encodedForm_alone 0xC8 rfl rfl rfl
theorem EncodedForm.ret : EncodedForm.Statement .ret :=
  encodedForm_alone 0xC9 rfl rfl rfl
theorem EncodedForm.jz (a16 : Word) : EncodedForm.Statement (.jz a16) :=
  encodedForm_withWord 0xCA .jz a16 rfl rfl rfl
theorem EncodedForm.jmpCB (a16 : Word) : EncodedForm.Statement (.jmpCB a16) :=
  encodedForm_withWord 0xCB .jmpCB a16 rfl rfl rfl
theorem EncodedForm.cz (a16 : Word) : EncodedForm.Statement (.cz a16) :=
  encodedForm_withWord 0xCC .cz a16 rfl rfl rfl
theorem EncodedForm.call (a16 : Word) : EncodedForm.Statement (.call a16) :=
  encodedForm_withWord 0xCD .call a16 rfl rfl rfl
theorem EncodedForm.aci (d8 : Byte) : EncodedForm.Statement (.aci d8) :=
  encodedForm_withByte 0xCE .aci d8 rfl rfl rfl
theorem EncodedForm.rst1 : EncodedForm.Statement .rst1 :=
  encodedForm_alone 0xCF rfl rfl rfl
theorem EncodedForm.rnc : EncodedForm.Statement .rnc :=
  encodedForm_alone 0xD0 rfl rfl rfl
theorem EncodedForm.popD : EncodedForm.Statement .popD :=
  encodedForm_alone 0xD1 rfl rfl rfl
theorem EncodedForm.jnc (a16 : Word) : EncodedForm.Statement (.jnc a16) :=
  encodedForm_withWord 0xD2 .jnc a16 rfl rfl rfl
theorem EncodedForm.outp (p8 : Byte) : EncodedForm.Statement (.outp p8) :=
  encodedForm_withByte 0xD3 .outp p8 rfl rfl rfl
theorem EncodedForm.cnc (a16 : Word) : EncodedForm.Statement (.cnc a16) :=
  encodedForm_withWord 0xD4 .cnc a16 rfl rfl rfl
theorem EncodedForm.pushD : EncodedForm.Statement .pushD :=
  encodedForm_alone 0xD5 rfl rfl rfl
theorem EncodedForm.sui (d8 : Byte) : EncodedForm.Statement (.sui d8) :=
  encodedForm_withByte 0xD6 .sui d8 rfl rfl rfl
theorem EncodedForm.rst2 : EncodedForm.Statement .rst2 :=
  encodedForm_alone 0xD7 rfl rfl rfl
theorem EncodedForm.rc : EncodedForm.Statement .rc :=
  encodedForm_alone 0xD8 rfl rfl rfl
theorem EncodedForm.retD9 : EncodedForm.Statement .retD9 :=
  encodedForm_alone 0xD9 rfl rfl rfl
theorem EncodedForm.jc (a16 : Word) : EncodedForm.Statement (.jc a16) :=
  encodedForm_withWord 0xDA .jc a16 rfl rfl rfl
theorem EncodedForm.inp (p8 : Byte) : EncodedForm.Statement (.inp p8) :=
  encodedForm_withByte 0xDB .inp p8 rfl rfl rfl
theorem EncodedForm.cc (a16 : Word) : EncodedForm.Statement (.cc a16) :=
  encodedForm_withWord 0xDC .cc a16 rfl rfl rfl
theorem EncodedForm.callDD (a16 : Word) : EncodedForm.Statement (.callDD a16) :=
  encodedForm_withWord 0xDD .callDD a16 rfl rfl rfl
theorem EncodedForm.sbi (d8 : Byte) : EncodedForm.Statement (.sbi d8) :=
  encodedForm_withByte 0xDE .sbi d8 rfl rfl rfl
theorem EncodedForm.rst3 : EncodedForm.Statement .rst3 :=
  encodedForm_alone 0xDF rfl rfl rfl
theorem EncodedForm.rpo : EncodedForm.Statement .rpo :=
  encodedForm_alone 0xE0 rfl rfl rfl
theorem EncodedForm.popH : EncodedForm.Statement .popH :=
  encodedForm_alone 0xE1 rfl rfl rfl
theorem EncodedForm.jpo (a16 : Word) : EncodedForm.Statement (.jpo a16) :=
  encodedForm_withWord 0xE2 .jpo a16 rfl rfl rfl
theorem EncodedForm.xthl : EncodedForm.Statement .xthl :=
  encodedForm_alone 0xE3 rfl rfl rfl
theorem EncodedForm.cpo (a16 : Word) : EncodedForm.Statement (.cpo a16) :=
  encodedForm_withWord 0xE4 .cpo a16 rfl rfl rfl
theorem EncodedForm.pushH : EncodedForm.Statement .pushH :=
  encodedForm_alone 0xE5 rfl rfl rfl
theorem EncodedForm.ani (d8 : Byte) : EncodedForm.Statement (.ani d8) :=
  encodedForm_withByte 0xE6 .ani d8 rfl rfl rfl
theorem EncodedForm.rst4 : EncodedForm.Statement .rst4 :=
  encodedForm_alone 0xE7 rfl rfl rfl
theorem EncodedForm.rpe : EncodedForm.Statement .rpe :=
  encodedForm_alone 0xE8 rfl rfl rfl
theorem EncodedForm.pchl : EncodedForm.Statement .pchl :=
  encodedForm_alone 0xE9 rfl rfl rfl
theorem EncodedForm.jpe (a16 : Word) : EncodedForm.Statement (.jpe a16) :=
  encodedForm_withWord 0xEA .jpe a16 rfl rfl rfl
theorem EncodedForm.xchg : EncodedForm.Statement .xchg :=
  encodedForm_alone 0xEB rfl rfl rfl
theorem EncodedForm.cpe (a16 : Word) : EncodedForm.Statement (.cpe a16) :=
  encodedForm_withWord 0xEC .cpe a16 rfl rfl rfl
theorem EncodedForm.callED (a16 : Word) : EncodedForm.Statement (.callED a16) :=
  encodedForm_withWord 0xED .callED a16 rfl rfl rfl
theorem EncodedForm.xri (d8 : Byte) : EncodedForm.Statement (.xri d8) :=
  encodedForm_withByte 0xEE .xri d8 rfl rfl rfl
theorem EncodedForm.rst5 : EncodedForm.Statement .rst5 :=
  encodedForm_alone 0xEF rfl rfl rfl
theorem EncodedForm.rp : EncodedForm.Statement .rp :=
  encodedForm_alone 0xF0 rfl rfl rfl
theorem EncodedForm.popPSW : EncodedForm.Statement .popPSW :=
  encodedForm_alone 0xF1 rfl rfl rfl
theorem EncodedForm.jp (a16 : Word) : EncodedForm.Statement (.jp a16) :=
  encodedForm_withWord 0xF2 .jp a16 rfl rfl rfl
theorem EncodedForm.di : EncodedForm.Statement .di :=
  encodedForm_alone 0xF3 rfl rfl rfl
theorem EncodedForm.cp (a16 : Word) : EncodedForm.Statement (.cp a16) :=
  encodedForm_withWord 0xF4 .cp a16 rfl rfl rfl
theorem EncodedForm.pushPSW : EncodedForm.Statement .pushPSW :=
  encodedForm_alone 0xF5 rfl rfl rfl
theorem EncodedForm.ori (d8 : Byte) : EncodedForm.Statement (.ori d8) :=
  encodedForm_withByte 0xF6 .ori d8 rfl rfl rfl
theorem EncodedForm.rst6 : EncodedForm.Statement .rst6 :=
  encodedForm_alone 0xF7 rfl rfl rfl
theorem EncodedForm.rm : EncodedForm.Statement .rm :=
  encodedForm_alone 0xF8 rfl rfl rfl
theorem EncodedForm.sphl : EncodedForm.Statement .sphl :=
  encodedForm_alone 0xF9 rfl rfl rfl
theorem EncodedForm.jm (a16 : Word) : EncodedForm.Statement (.jm a16) :=
  encodedForm_withWord 0xFA .jm a16 rfl rfl rfl
theorem EncodedForm.ei : EncodedForm.Statement .ei :=
  encodedForm_alone 0xFB rfl rfl rfl
theorem EncodedForm.cm (a16 : Word) : EncodedForm.Statement (.cm a16) :=
  encodedForm_withWord 0xFC .cm a16 rfl rfl rfl
theorem EncodedForm.callFD (a16 : Word) : EncodedForm.Statement (.callFD a16) :=
  encodedForm_withWord 0xFD .callFD a16 rfl rfl rfl
theorem EncodedForm.cpi (d8 : Byte) : EncodedForm.Statement (.cpi d8) :=
  encodedForm_withByte 0xFE .cpi d8 rfl rfl rfl
theorem EncodedForm.rst7 : EncodedForm.Statement .rst7 :=
  encodedForm_alone 0xFF rfl rfl rfl

end Sys2Proof.Laws
end

