-- ==== Sys2Proof/Laws/Decode.lean ====
section
/-! SUPPORT. Laws of the opcode map and the decoder. -/

namespace Sys2Proof

/-- A property of bytes follows from its 256 instances. -/
theorem forall_byte {P : Byte → Prop} (h : ∀ n, n < 256 → P (BitVec.ofNat 8 n)) : ∀ v, P v :=
  fun v => by simpa using h v.toNat v.isLt

/-- The form makes instructions of this opcode byte whose operand bytes are the operand
(30_encoding.md R90, R93). -/
def OpcodeForm.Encodes (op : Byte) : OpcodeForm → Prop
  | .alone i => i.opcode = op ∧ i.operandBytes = []
  | .withByte k => ∀ d, (k d).opcode = op ∧ (k d).operandBytes = [d]
  | .withWord k => ∀ w, (k w).opcode = op ∧ (k w).operandBytes = wordBytes w

/-- Every entry of the opcode map agrees with the encoder (30_encoding.md R105 against R95 to R104). -/
theorem opcodeForm_encodes (op : Byte) : (opcodeForm op).Encodes op := by
  revert op
  apply forall_byte
  intro n hn
  interval_cases n <;> clear hn <;> first | exact ⟨rfl, rfl⟩ | exact fun _ => ⟨rfl, rfl⟩

/-- The three ways in which decoding succeeds (30_encoding.md R90 to R93). -/
theorem decode_ok {bytes : List Byte} {i : Instr} {rest : List Byte}
    (h : decode bytes = .ok i rest) :
    (∃ op, opcodeForm op = .alone i ∧ bytes = op :: rest) ∨
    (∃ op k d, opcodeForm op = .withByte k ∧ i = k d ∧ bytes = op :: d :: rest) ∨
    (∃ op k lo hi, opcodeForm op = .withWord k ∧ i = k (joinBytes hi lo) ∧
      bytes = op :: lo :: hi :: rest) := by
  unfold decode at h
  split at h
  · cases h
  · split at h <;> simp only [Decoded.ok.injEq, reduceCtorEq] at h
    · obtain ⟨rfl, rfl⟩ := h
      exact .inl ⟨_, ‹_›, rfl⟩
    · obtain ⟨rfl, rfl⟩ := h
      exact .inr (.inl ⟨_, _, _, ‹_›, rfl, rfl⟩)
    · obtain ⟨rfl, rfl⟩ := h
      exact .inr (.inr ⟨_, _, _, _, ‹_›, rfl, rfl⟩)

end Sys2Proof
end

