-- ==== Sys2Proof/Laws/Flags.lean ====
section
/-! SUPPORT. Laws of the flag register and of the micro-operations. -/

namespace Sys2Proof.Machine

/-! ## `F` as a byte (10_state.md R27, R36; 47_stack.md R295) -/

@[simp] theorem Flags.ofByte_toByte (f : Flags) : Flags.ofByte f.toByte = f := by
  obtain ⟨s, z, b5, ac, b3, p, b1, cy⟩ := f
  revert s z b5 ac b3 p b1 cy
  decide

@[simp] theorem Flags.toByte_ofByte (v : Byte) : (Flags.ofByte v).toByte = v := by
  revert v
  decide

/-- The bit of `F` at each place (R27, R36). -/
theorem Flags.getBit_eq (f : Flags) (i : Fin 8) :
    f.getBit i = (#v[f.cy, f.b1, f.p, f.b3, f.ac, f.b5, f.z, f.s] : Vector Bool 8).get i := by
  obtain ⟨s, z, b5, ac, b3, p, b1, cy⟩ := f
  revert s z b5 ac b3 p b1 cy
  fin_cases i <;> decide

/-- The flag-bit accessors (R36). -/
theorem Flags.getBit_setBit (f : Flags) (i j : Fin 8) (b : Bool) :
    (f.setBit i b).getBit j = if j = i then b else f.getBit j := by
  rw [Flags.getBit_eq, Flags.getBit_eq]
  fin_cases i <;> fin_cases j <;> rfl

/-- What a pop leaves in bits 1, 3 and 5 (R33, R295). -/
theorem Flags.ofPopped_reserved (v : Byte) :
    (Flags.ofPopped v).b1 = true ∧ (Flags.ofPopped v).b3 = false ∧ (Flags.ofPopped v).b5 = false := by
  revert v
  decide

/-- What a pop leaves in the five condition flags (R295). -/
theorem Flags.ofPopped_conditions (v : Byte) :
    (Flags.ofPopped v).s = v.getLsbD 7 ∧ (Flags.ofPopped v).z = v.getLsbD 6 ∧
      (Flags.ofPopped v).ac = v.getLsbD 4 ∧ (Flags.ofPopped v).p = v.getLsbD 2 ∧
      (Flags.ofPopped v).cy = v.getLsbD 0 := by
  simp [Flags.ofPopped, Flags.ofByte]

/-! ## What no micro-operation writes (40_alu_microops.md R133) -/

section
variable (v : Byte) (f : Flags)

@[simp] theorem szp_ac : (szp v f).ac = f.ac := rfl
@[simp] theorem szp_cy : (szp v f).cy = f.cy := rfl
@[simp] theorem szp_b1 : (szp v f).b1 = f.b1 := rfl
@[simp] theorem szp_b3 : (szp v f).b3 = f.b3 := rfl
@[simp] theorem szp_b5 : (szp v f).b5 = f.b5 := rfl
@[simp] theorem szp_s : (szp v f).s = v.getLsbD 7 := rfl
@[simp] theorem szp_z : (szp v f).z = decide (v = 0) := rfl
@[simp] theorem szp_p : (szp v f).p = parity8 v := by rw [szp]

end

/-! ## Decimal adjust, step by step (40_alu_microops.md R146) -/

theorem daaLow_add {a : Byte} {f : Flags} (h : a.toNat % 16 > 9 ∨ f.ac = true) :
    daaLow a f = (a + 0x06, { f with ac := true }) := by
  unfold daaLow
  exact if_pos (Bool.or_eq_true_iff.2 (h.imp_left fun c => decide_eq_true c))

theorem daaLow_keep {a : Byte} {f : Flags} (h : ¬(a.toNat % 16 > 9 ∨ f.ac = true)) :
    daaLow a f = (a, f) := by
  unfold daaLow
  exact if_neg fun c => h ((Bool.or_eq_true_iff.1 c).imp_left fun c => of_decide_eq_true c)

theorem daaHigh_add {a : Byte} {f : Flags} (h : a.toNat / 16 > 9 ∨ f.cy = true) :
    daaHigh a f = (a + 0x60, { f with cy := true }) := by
  unfold daaHigh
  exact if_pos (Bool.or_eq_true_iff.2 (h.imp_left fun c => decide_eq_true c))

theorem daaHigh_keep {a : Byte} {f : Flags} (h : ¬(a.toNat / 16 > 9 ∨ f.cy = true)) :
    daaHigh a f = (a, f) := by
  unfold daaHigh
  exact if_neg fun c => h ((Bool.or_eq_true_iff.1 c).imp_left fun c => of_decide_eq_true c)

/-- The low step leaves `CY` alone. -/
@[simp] theorem daaLow_cy (a : Byte) (f : Flags) : (daaLow a f).2.cy = f.cy := by
  unfold daaLow
  split <;> rfl

/-- The high step leaves `AC` alone. -/
@[simp] theorem daaHigh_ac (a : Byte) (f : Flags) : (daaHigh a f).2.ac = f.ac := by
  unfold daaHigh
  split <;> rfl

/-- `DAA8` is the low step, then the high step, then `SZP`. -/
theorem daa8_eq (a : Byte) (f : Flags) :
    daa8 a f =
      ((daaHigh (daaLow a f).1 (daaLow a f).2).1,
        szp (daaHigh (daaLow a f).1 (daaLow a f).2).1 (daaHigh (daaLow a f).1 (daaLow a f).2).2) :=
  rfl

/-- `ADD8` is the 9-bit sum: the result, with `CY` as its ninth bit (R134, R136). -/
theorem add8_sum (a b : Byte) (cin : Bool) (f : Flags) :
    (add8 a b cin f).1.toNat + 256 * (add8 a b cin f).2.cy.toNat
      = a.toNat + b.toNat + cin.toNat := by
  have ha := a.isLt
  have hb := b.isLt
  have hc := Bool.toNat_le cin
  simp only [add8, szp_cy, BitVec.toNat_ofNat]
  by_cases h : b.toNat + cin.toNat > 0xFF - a.toNat
  · simp only [h, decide_true, Bool.toNat_true]
    omega
  · simp only [h, decide_false, Bool.toNat_false]
    omega

/-- `SUB8` is the 9-bit difference: `CY` is its borrow (R134, R137). -/
theorem sub8_difference (pol : Config.AcSub) (a b : Byte) (bin : Bool) (f : Flags) :
    (sub8 pol a b bin f).1.toNat + b.toNat + bin.toNat
      = a.toNat + 256 * (sub8 pol a b bin f).2.cy.toNat := by
  have ha := a.isLt
  have hb := b.isLt
  have hc := Bool.toNat_le bin
  simp only [sub8, szp_cy, BitVec.toNat_sub, BitVec.toNat_ofNat]
  by_cases h : b.toNat + bin.toNat > a.toNat
  · simp only [h, decide_true, Bool.toNat_true]
    omega
  · simp only [h, decide_false, Bool.toNat_false]
    omega

/-- `ADD16` is the 17-bit sum, with `CY` as its top bit (R135, R147). -/
theorem add16_sum (h v : Word) (f : Flags) :
    (add16 h v f).1.toNat + 65536 * (add16 h v f).2.cy.toNat = h.toNat + v.toNat := by
  have hh := h.isLt
  have hv := v.isLt
  simp only [add16, BitVec.toNat_add]
  by_cases c : v.toNat > 0xFFFF - h.toNat
  · simp only [c, decide_true, Bool.toNat_true]
    omega
  · simp only [c, decide_false, Bool.toNat_false]
    omega

end Sys2Proof.Machine
end

