-- ==== Sys2Proof/Laws/Memory.lean ====
section
/-! SUPPORT. Laws of the memory: read after write, and the canonical form. -/

namespace Sys2Proof.Machine

@[simp] theorem Memory.lookup_nil (n : Nat) : Memory.lookup [] n = Memory.unlisted := rfl

theorem Memory.lookup_cons (k : Nat) (v : Byte) (m : Memory) (n : Nat) :
    Memory.lookup ((k, v) :: m) n = if n = k then v else Memory.lookup m n := rfl

/-- The canonical form of a longer list. -/
theorem Memory.wf_cons {k : Nat} {v : Byte} {m : Memory} :
    Memory.wf ((k, v) :: m) ↔
      (∀ c ∈ m, k < c.1) ∧ k < 65536 ∧ v ≠ Memory.unlisted ∧ Memory.wf m := by
  simp only [Memory.wf, List.pairwise_cons, List.forall_mem_cons]
  tauto

/-! ## Erasing -/

theorem Memory.lookup_erase_same (m : Memory) (n : Nat) :
    Memory.lookup (Memory.erase m n) n = Memory.unlisted := by
  induction m with
  | nil => rfl
  | cons c m ih =>
    obtain ⟨k, w⟩ := c
    unfold Memory.erase at ih ⊢
    by_cases hk : k = n
    · simpa [hk] using ih
    · rw [List.filter_cons_of_pos (by simpa using hk), Memory.lookup_cons, if_neg (Ne.symm hk), ih]

theorem Memory.lookup_erase_other (m : Memory) {n k : Nat} (h : k ≠ n) :
    Memory.lookup (Memory.erase m n) k = Memory.lookup m k := by
  induction m with
  | nil => rfl
  | cons c m ih =>
    obtain ⟨j, w⟩ := c
    unfold Memory.erase at ih ⊢
    by_cases hj : j = n
    · rw [List.filter_cons_of_neg (by simp [hj]), ih, Memory.lookup_cons, if_neg (by omega)]
    · rw [List.filter_cons_of_pos (by simpa using hj), Memory.lookup_cons, Memory.lookup_cons, ih]

theorem Memory.mem_erase {m : Memory} {n : Nat} {c : Host.Cell} :
    c ∈ Memory.erase m n ↔ c ∈ m ∧ c.1 ≠ n := by
  simp [Memory.erase]

theorem Memory.wf_erase {m : Memory} (n : Nat) (hm : Memory.wf m) : Memory.wf (Memory.erase m n) :=
  ⟨hm.1.filter _, fun c hc => hm.2 c (Memory.mem_erase.1 hc).1⟩

/-! ## Inserting -/

theorem Memory.mem_insert {m : Memory} {x c : Host.Cell} :
    c ∈ Memory.insert m x ↔ c = x ∨ c ∈ m := by
  induction m with
  | nil => simp [Memory.insert]
  | cons y m ih =>
    unfold Memory.insert
    split
    · simp
    · simp only [List.mem_cons, ih]
      tauto

/-- The inserted cell is found where its address was absent. -/
theorem Memory.lookup_insert_same {m : Memory} {n : Nat} (v : Byte) (h : ∀ c ∈ m, c.1 ≠ n) :
    Memory.lookup (Memory.insert m (n, v)) n = v := by
  induction m with
  | nil => simp [Memory.insert, Memory.lookup_cons]
  | cons y m ih =>
    obtain ⟨k, w⟩ := y
    have hk : k ≠ n := h (k, w) (by simp)
    unfold Memory.insert
    split
    · simp [Memory.lookup_cons]
    · rw [Memory.lookup_cons, if_neg (Ne.symm hk), ih fun c hc => h c (by simp [hc])]

theorem Memory.lookup_insert_other (m : Memory) {n k : Nat} (v : Byte) (h : k ≠ n) :
    Memory.lookup (Memory.insert m (n, v)) k = Memory.lookup m k := by
  induction m with
  | nil => simp [Memory.insert, Memory.lookup_cons, h]
  | cons y m ih =>
    obtain ⟨j, w⟩ := y
    unfold Memory.insert
    split
    · rw [Memory.lookup_cons, if_neg h]
    · rw [Memory.lookup_cons, Memory.lookup_cons, ih]

theorem Memory.wf_insert {m : Memory} {n : Nat} {v : Byte} (hm : Memory.wf m) (hn : n < 65536)
    (hv : v ≠ Memory.unlisted) (h : ∀ c ∈ m, c.1 ≠ n) : Memory.wf (Memory.insert m (n, v)) := by
  induction m with
  | nil => exact Memory.wf_cons.2 ⟨by simp, hn, hv, hm⟩
  | cons y m ih =>
    obtain ⟨k, w⟩ := y
    have hk : k ≠ n := h (k, w) (by simp)
    obtain ⟨hlt, hk', hw, hm'⟩ := Memory.wf_cons.1 hm
    unfold Memory.insert
    split
    · rename_i hnk
      refine Memory.wf_cons.2 ⟨fun c hc => ?_, hn, hv, hm⟩
      rcases List.mem_cons.1 hc with rfl | hc
      · exact hnk
      · exact Nat.lt_trans hnk (hlt c hc)
    · rename_i hnk
      refine Memory.wf_cons.2 ⟨fun c hc => ?_, hk', hw, ih hm' fun c hc => h c (by simp [hc])⟩
      rcases Memory.mem_insert.1 hc with rfl | hc
      · exact Nat.lt_of_le_of_ne (Nat.not_lt.1 hnk) hk
      · exact hlt c hc

/-! ## Updating -/

/-- Reading the updated address gives the byte written (20_memory.md R62, R63). -/
@[simp] theorem Memory.lookup_update_same (m : Memory) (n : Nat) (v : Byte) :
    Memory.lookup (Memory.update m n v) n = v := by
  unfold Memory.update
  split
  · rename_i hv
    rw [Memory.lookup_erase_same, hv]
  · exact Memory.lookup_insert_same v fun c hc => (Memory.mem_erase.1 hc).2

/-- Reading another address gives what it gave (20_memory.md R63). -/
theorem Memory.lookup_update_other (m : Memory) {n k : Nat} (v : Byte) (h : k ≠ n) :
    Memory.lookup (Memory.update m n v) k = Memory.lookup m k := by
  unfold Memory.update
  split
  · exact Memory.lookup_erase_other m h
  · rw [Memory.lookup_insert_other _ v h, Memory.lookup_erase_other m h]

/-- An update keeps the canonical form. -/
theorem Memory.wf_update {m : Memory} {n : Nat} (v : Byte) (hm : Memory.wf m) (hn : n < 65536) :
    Memory.wf (Memory.update m n v) := by
  unfold Memory.update
  split
  · exact Memory.wf_erase n hm
  · exact Memory.wf_insert (Memory.wf_erase n hm) hn ‹_› fun c hc => (Memory.mem_erase.1 hc).2

end Sys2Proof.Machine
end

