-- ==== Sys2Proof/Laws/State.lean ====
section
/-! SUPPORT. One law for each field and each update of the state: what the field holds afterwards. -/

namespace Sys2Proof.Machine

variable (s : State)

/-! ## setReg -/

@[simp] theorem State.setReg_regs (r : Reg8) (v : Byte) : (s.setReg r v).regs = s.regs.set r v := rfl
@[simp] theorem State.setReg_flags (r : Reg8) (v : Byte) : (s.setReg r v).flags = s.flags := rfl
@[simp] theorem State.setReg_sp (r : Reg8) (v : Byte) : (s.setReg r v).sp = s.sp := rfl
@[simp] theorem State.setReg_pc (r : Reg8) (v : Byte) : (s.setReg r v).pc = s.pc := rfl
@[simp] theorem State.setReg_inte (r : Reg8) (v : Byte) : (s.setReg r v).inte = s.inte := rfl
@[simp] theorem State.setReg_halted (r : Reg8) (v : Byte) : (s.setReg r v).halted = s.halted := rfl
@[simp] theorem State.setReg_intPending (r : Reg8) (v : Byte) : (s.setReg r v).intPending = s.intPending := rfl
@[simp] theorem State.setReg_intVector (r : Reg8) (v : Byte) : (s.setReg r v).intVector = s.intVector := rfl
@[simp] theorem State.setReg_mem (r : Reg8) (v : Byte) : (s.setReg r v).mem = s.mem := rfl
@[simp] theorem State.setReg_portEvents (r : Reg8) (v : Byte) : (s.setReg r v).portEvents = s.portEvents := rfl
@[simp] theorem State.setReg_draws (r : Reg8) (v : Byte) : (s.setReg r v).draws = s.draws := rfl

/-! ## setBc -/

@[simp] theorem State.setBc_flags (v : Word) : (s.setBc v).flags = s.flags := rfl
@[simp] theorem State.setBc_sp (v : Word) : (s.setBc v).sp = s.sp := rfl
@[simp] theorem State.setBc_pc (v : Word) : (s.setBc v).pc = s.pc := rfl
@[simp] theorem State.setBc_inte (v : Word) : (s.setBc v).inte = s.inte := rfl
@[simp] theorem State.setBc_halted (v : Word) : (s.setBc v).halted = s.halted := rfl
@[simp] theorem State.setBc_intPending (v : Word) : (s.setBc v).intPending = s.intPending := rfl
@[simp] theorem State.setBc_intVector (v : Word) : (s.setBc v).intVector = s.intVector := rfl
@[simp] theorem State.setBc_mem (v : Word) : (s.setBc v).mem = s.mem := rfl
@[simp] theorem State.setBc_portEvents (v : Word) : (s.setBc v).portEvents = s.portEvents := rfl
@[simp] theorem State.setBc_draws (v : Word) : (s.setBc v).draws = s.draws := rfl

/-! ## setDe -/

@[simp] theorem State.setDe_flags (v : Word) : (s.setDe v).flags = s.flags := rfl
@[simp] theorem State.setDe_sp (v : Word) : (s.setDe v).sp = s.sp := rfl
@[simp] theorem State.setDe_pc (v : Word) : (s.setDe v).pc = s.pc := rfl
@[simp] theorem State.setDe_inte (v : Word) : (s.setDe v).inte = s.inte := rfl
@[simp] theorem State.setDe_halted (v : Word) : (s.setDe v).halted = s.halted := rfl
@[simp] theorem State.setDe_intPending (v : Word) : (s.setDe v).intPending = s.intPending := rfl
@[simp] theorem State.setDe_intVector (v : Word) : (s.setDe v).intVector = s.intVector := rfl
@[simp] theorem State.setDe_mem (v : Word) : (s.setDe v).mem = s.mem := rfl
@[simp] theorem State.setDe_portEvents (v : Word) : (s.setDe v).portEvents = s.portEvents := rfl
@[simp] theorem State.setDe_draws (v : Word) : (s.setDe v).draws = s.draws := rfl

/-! ## setHl -/

@[simp] theorem State.setHl_flags (v : Word) : (s.setHl v).flags = s.flags := rfl
@[simp] theorem State.setHl_sp (v : Word) : (s.setHl v).sp = s.sp := rfl
@[simp] theorem State.setHl_pc (v : Word) : (s.setHl v).pc = s.pc := rfl
@[simp] theorem State.setHl_inte (v : Word) : (s.setHl v).inte = s.inte := rfl
@[simp] theorem State.setHl_halted (v : Word) : (s.setHl v).halted = s.halted := rfl
@[simp] theorem State.setHl_intPending (v : Word) : (s.setHl v).intPending = s.intPending := rfl
@[simp] theorem State.setHl_intVector (v : Word) : (s.setHl v).intVector = s.intVector := rfl
@[simp] theorem State.setHl_mem (v : Word) : (s.setHl v).mem = s.mem := rfl
@[simp] theorem State.setHl_portEvents (v : Word) : (s.setHl v).portEvents = s.portEvents := rfl
@[simp] theorem State.setHl_draws (v : Word) : (s.setHl v).draws = s.draws := rfl

/-! ## writeByte -/

@[simp] theorem State.writeByte_regs (a : Word) (v : Byte) : (s.writeByte a v).regs = s.regs := rfl
@[simp] theorem State.writeByte_flags (a : Word) (v : Byte) : (s.writeByte a v).flags = s.flags := rfl
@[simp] theorem State.writeByte_sp (a : Word) (v : Byte) : (s.writeByte a v).sp = s.sp := rfl
@[simp] theorem State.writeByte_pc (a : Word) (v : Byte) : (s.writeByte a v).pc = s.pc := rfl
@[simp] theorem State.writeByte_inte (a : Word) (v : Byte) : (s.writeByte a v).inte = s.inte := rfl
@[simp] theorem State.writeByte_halted (a : Word) (v : Byte) : (s.writeByte a v).halted = s.halted := rfl
@[simp] theorem State.writeByte_intPending (a : Word) (v : Byte) : (s.writeByte a v).intPending = s.intPending := rfl
@[simp] theorem State.writeByte_intVector (a : Word) (v : Byte) : (s.writeByte a v).intVector = s.intVector := rfl
@[simp] theorem State.writeByte_mem (a : Word) (v : Byte) : (s.writeByte a v).mem = Memory.update s.mem a.toNat v := rfl
@[simp] theorem State.writeByte_portEvents (a : Word) (v : Byte) : (s.writeByte a v).portEvents = s.portEvents := rfl
@[simp] theorem State.writeByte_draws (a : Word) (v : Byte) : (s.writeByte a v).draws = s.draws := rfl

/-! ## writeWord -/

@[simp] theorem State.writeWord_regs (a : Word) (v : Word) : (s.writeWord a v).regs = s.regs := rfl
@[simp] theorem State.writeWord_flags (a : Word) (v : Word) : (s.writeWord a v).flags = s.flags := rfl
@[simp] theorem State.writeWord_sp (a : Word) (v : Word) : (s.writeWord a v).sp = s.sp := rfl
@[simp] theorem State.writeWord_pc (a : Word) (v : Word) : (s.writeWord a v).pc = s.pc := rfl
@[simp] theorem State.writeWord_inte (a : Word) (v : Word) : (s.writeWord a v).inte = s.inte := rfl
@[simp] theorem State.writeWord_halted (a : Word) (v : Word) : (s.writeWord a v).halted = s.halted := rfl
@[simp] theorem State.writeWord_intPending (a : Word) (v : Word) : (s.writeWord a v).intPending = s.intPending := rfl
@[simp] theorem State.writeWord_intVector (a : Word) (v : Word) : (s.writeWord a v).intVector = s.intVector := rfl
@[simp] theorem State.writeWord_portEvents (a : Word) (v : Word) : (s.writeWord a v).portEvents = s.portEvents := rfl
@[simp] theorem State.writeWord_draws (a : Word) (v : Word) : (s.writeWord a v).draws = s.draws := rfl

/-! ## push16 -/

@[simp] theorem State.push16_regs (v : Word) : (s.push16 v).regs = s.regs := rfl
@[simp] theorem State.push16_flags (v : Word) : (s.push16 v).flags = s.flags := rfl
@[simp] theorem State.push16_sp (v : Word) : (s.push16 v).sp = s.sp - 2 := rfl
@[simp] theorem State.push16_pc (v : Word) : (s.push16 v).pc = s.pc := rfl
@[simp] theorem State.push16_inte (v : Word) : (s.push16 v).inte = s.inte := rfl
@[simp] theorem State.push16_halted (v : Word) : (s.push16 v).halted = s.halted := rfl
@[simp] theorem State.push16_intPending (v : Word) : (s.push16 v).intPending = s.intPending := rfl
@[simp] theorem State.push16_intVector (v : Word) : (s.push16 v).intVector = s.intVector := rfl
@[simp] theorem State.push16_portEvents (v : Word) : (s.push16 v).portEvents = s.portEvents := rfl
@[simp] theorem State.push16_draws (v : Word) : (s.push16 v).draws = s.draws := rfl

/-! ## pop16_snd -/

@[simp] theorem State.pop16_snd_regs : (s.pop16.2).regs = s.regs := rfl
@[simp] theorem State.pop16_snd_flags : (s.pop16.2).flags = s.flags := rfl
@[simp] theorem State.pop16_snd_sp : (s.pop16.2).sp = s.sp + 2 := rfl
@[simp] theorem State.pop16_snd_pc : (s.pop16.2).pc = s.pc := rfl
@[simp] theorem State.pop16_snd_inte : (s.pop16.2).inte = s.inte := rfl
@[simp] theorem State.pop16_snd_halted : (s.pop16.2).halted = s.halted := rfl
@[simp] theorem State.pop16_snd_intPending : (s.pop16.2).intPending = s.intPending := rfl
@[simp] theorem State.pop16_snd_intVector : (s.pop16.2).intVector = s.intVector := rfl
@[simp] theorem State.pop16_snd_mem : (s.pop16.2).mem = s.mem := rfl
@[simp] theorem State.pop16_snd_portEvents : (s.pop16.2).portEvents = s.portEvents := rfl
@[simp] theorem State.pop16_snd_draws : (s.pop16.2).draws = s.draws := rfl

/-! ## fetch8_snd -/

@[simp] theorem State.fetch8_snd_regs : (s.fetch8.2).regs = s.regs := rfl
@[simp] theorem State.fetch8_snd_flags : (s.fetch8.2).flags = s.flags := rfl
@[simp] theorem State.fetch8_snd_sp : (s.fetch8.2).sp = s.sp := rfl
@[simp] theorem State.fetch8_snd_pc : (s.fetch8.2).pc = s.pc + 1 := rfl
@[simp] theorem State.fetch8_snd_inte : (s.fetch8.2).inte = s.inte := rfl
@[simp] theorem State.fetch8_snd_halted : (s.fetch8.2).halted = s.halted := rfl
@[simp] theorem State.fetch8_snd_intPending : (s.fetch8.2).intPending = s.intPending := rfl
@[simp] theorem State.fetch8_snd_intVector : (s.fetch8.2).intVector = s.intVector := rfl
@[simp] theorem State.fetch8_snd_mem : (s.fetch8.2).mem = s.mem := rfl
@[simp] theorem State.fetch8_snd_portEvents : (s.fetch8.2).portEvents = s.portEvents := rfl
@[simp] theorem State.fetch8_snd_draws : (s.fetch8.2).draws = s.draws := rfl

/-! ## fetch16_snd -/

@[simp] theorem State.fetch16_snd_regs : (s.fetch16.2).regs = s.regs := rfl
@[simp] theorem State.fetch16_snd_flags : (s.fetch16.2).flags = s.flags := rfl
@[simp] theorem State.fetch16_snd_sp : (s.fetch16.2).sp = s.sp := rfl
@[simp] theorem State.fetch16_snd_pc : (s.fetch16.2).pc = s.pc + 1 + 1 := rfl
@[simp] theorem State.fetch16_snd_inte : (s.fetch16.2).inte = s.inte := rfl
@[simp] theorem State.fetch16_snd_halted : (s.fetch16.2).halted = s.halted := rfl
@[simp] theorem State.fetch16_snd_intPending : (s.fetch16.2).intPending = s.intPending := rfl
@[simp] theorem State.fetch16_snd_intVector : (s.fetch16.2).intVector = s.intVector := rfl
@[simp] theorem State.fetch16_snd_mem : (s.fetch16.2).mem = s.mem := rfl
@[simp] theorem State.fetch16_snd_portEvents : (s.fetch16.2).portEvents = s.portEvents := rfl
@[simp] theorem State.fetch16_snd_draws : (s.fetch16.2).draws = s.draws := rfl

/-! ## portIn_snd -/

@[simp] theorem State.portIn_snd_regs (p : Byte) : ((s.portIn p).2).regs = s.regs := rfl
@[simp] theorem State.portIn_snd_flags (p : Byte) : ((s.portIn p).2).flags = s.flags := rfl
@[simp] theorem State.portIn_snd_sp (p : Byte) : ((s.portIn p).2).sp = s.sp := rfl
@[simp] theorem State.portIn_snd_pc (p : Byte) : ((s.portIn p).2).pc = s.pc := rfl
@[simp] theorem State.portIn_snd_inte (p : Byte) : ((s.portIn p).2).inte = s.inte := rfl
@[simp] theorem State.portIn_snd_halted (p : Byte) : ((s.portIn p).2).halted = s.halted := rfl
@[simp] theorem State.portIn_snd_intPending (p : Byte) : ((s.portIn p).2).intPending = s.intPending := rfl
@[simp] theorem State.portIn_snd_intVector (p : Byte) : ((s.portIn p).2).intVector = s.intVector := rfl
@[simp] theorem State.portIn_snd_mem (p : Byte) : ((s.portIn p).2).mem = s.mem := rfl
@[simp] theorem State.portIn_snd_portEvents (p : Byte) : ((s.portIn p).2).portEvents = s.portEvents ++ [.inp p (s.portIn p).1] := rfl
@[simp] theorem State.portIn_snd_draws (p : Byte) : ((s.portIn p).2).draws = s.draws + 1 := rfl

/-! ## portOut -/

@[simp] theorem State.portOut_regs (p v : Byte) : (s.portOut p v).regs = s.regs := rfl
@[simp] theorem State.portOut_flags (p v : Byte) : (s.portOut p v).flags = s.flags := rfl
@[simp] theorem State.portOut_sp (p v : Byte) : (s.portOut p v).sp = s.sp := rfl
@[simp] theorem State.portOut_pc (p v : Byte) : (s.portOut p v).pc = s.pc := rfl
@[simp] theorem State.portOut_inte (p v : Byte) : (s.portOut p v).inte = s.inte := rfl
@[simp] theorem State.portOut_halted (p v : Byte) : (s.portOut p v).halted = s.halted := rfl
@[simp] theorem State.portOut_intPending (p v : Byte) : (s.portOut p v).intPending = s.intPending := rfl
@[simp] theorem State.portOut_intVector (p v : Byte) : (s.portOut p v).intVector = s.intVector := rfl
@[simp] theorem State.portOut_mem (p v : Byte) : (s.portOut p v).mem = s.mem := rfl
@[simp] theorem State.portOut_portEvents (p v : Byte) : (s.portOut p v).portEvents = s.portEvents ++ [.out p v] := rfl
@[simp] theorem State.portOut_draws (p v : Byte) : (s.portOut p v).draws = s.draws := rfl

/-! ## drawLogicAc_snd -/

@[simp] theorem State.drawLogicAc_snd_regs : (s.drawLogicAc.2).regs = s.regs := rfl
@[simp] theorem State.drawLogicAc_snd_flags : (s.drawLogicAc.2).flags = s.flags := rfl
@[simp] theorem State.drawLogicAc_snd_sp : (s.drawLogicAc.2).sp = s.sp := rfl
@[simp] theorem State.drawLogicAc_snd_pc : (s.drawLogicAc.2).pc = s.pc := rfl
@[simp] theorem State.drawLogicAc_snd_inte : (s.drawLogicAc.2).inte = s.inte := rfl
@[simp] theorem State.drawLogicAc_snd_halted : (s.drawLogicAc.2).halted = s.halted := rfl
@[simp] theorem State.drawLogicAc_snd_intPending : (s.drawLogicAc.2).intPending = s.intPending := rfl
@[simp] theorem State.drawLogicAc_snd_intVector : (s.drawLogicAc.2).intVector = s.intVector := rfl
@[simp] theorem State.drawLogicAc_snd_mem : (s.drawLogicAc.2).mem = s.mem := rfl
@[simp] theorem State.drawLogicAc_snd_portEvents : (s.drawLogicAc.2).portEvents = s.portEvents := rfl
@[simp] theorem State.drawLogicAc_snd_draws : (s.drawLogicAc.2).draws = s.draws + 1 := rfl

/-! ## beginService -/

@[simp] theorem State.beginService_regs : (s.beginService).regs = s.regs := rfl
@[simp] theorem State.beginService_flags : (s.beginService).flags = s.flags := rfl
@[simp] theorem State.beginService_sp : (s.beginService).sp = s.sp := rfl
@[simp] theorem State.beginService_pc : (s.beginService).pc = s.pc := rfl
@[simp] theorem State.beginService_inte : (s.beginService).inte = false := rfl
@[simp] theorem State.beginService_halted : (s.beginService).halted = s.halted := rfl
@[simp] theorem State.beginService_intPending : (s.beginService).intPending = s.intPending := rfl
@[simp] theorem State.beginService_intVector : (s.beginService).intVector = s.intVector := rfl
@[simp] theorem State.beginService_mem : (s.beginService).mem = s.mem := rfl
@[simp] theorem State.beginService_portEvents : (s.beginService).portEvents = s.portEvents := rfl
@[simp] theorem State.beginService_draws : (s.beginService).draws = s.draws := rfl

/-! ## endService -/

@[simp] theorem State.endService_regs : (s.endService).regs = s.regs := rfl
@[simp] theorem State.endService_flags : (s.endService).flags = s.flags := rfl
@[simp] theorem State.endService_sp : (s.endService).sp = s.sp := rfl
@[simp] theorem State.endService_pc : (s.endService).pc = s.pc := rfl
@[simp] theorem State.endService_inte : (s.endService).inte = s.inte := rfl
@[simp] theorem State.endService_halted : (s.endService).halted = false := rfl
@[simp] theorem State.endService_intPending : (s.endService).intPending = false := rfl
@[simp] theorem State.endService_intVector : (s.endService).intVector = s.intVector := rfl
@[simp] theorem State.endService_mem : (s.endService).mem = s.mem := rfl
@[simp] theorem State.endService_portEvents : (s.endService).portEvents = s.portEvents := rfl
@[simp] theorem State.endService_draws : (s.endService).draws = s.draws := rfl

/-! ## setAccumulator -/

@[simp] theorem State.setAccumulator_regs (r : Byte × Flags) : (s.setAccumulator r).regs = { s.regs with a := r.1 } := rfl
@[simp] theorem State.setAccumulator_flags (r : Byte × Flags) : (s.setAccumulator r).flags = r.2 := rfl
@[simp] theorem State.setAccumulator_sp (r : Byte × Flags) : (s.setAccumulator r).sp = s.sp := rfl
@[simp] theorem State.setAccumulator_pc (r : Byte × Flags) : (s.setAccumulator r).pc = s.pc := rfl
@[simp] theorem State.setAccumulator_inte (r : Byte × Flags) : (s.setAccumulator r).inte = s.inte := rfl
@[simp] theorem State.setAccumulator_halted (r : Byte × Flags) : (s.setAccumulator r).halted = s.halted := rfl
@[simp] theorem State.setAccumulator_intPending (r : Byte × Flags) : (s.setAccumulator r).intPending = s.intPending := rfl
@[simp] theorem State.setAccumulator_intVector (r : Byte × Flags) : (s.setAccumulator r).intVector = s.intVector := rfl
@[simp] theorem State.setAccumulator_mem (r : Byte × Flags) : (s.setAccumulator r).mem = s.mem := rfl
@[simp] theorem State.setAccumulator_portEvents (r : Byte × Flags) : (s.setAccumulator r).portEvents = s.portEvents := rfl
@[simp] theorem State.setAccumulator_draws (r : Byte × Flags) : (s.setAccumulator r).draws = s.draws := rfl

/-! ## jump -/

@[simp] theorem State.jump_regs (a : Word) : (s.jump a).regs = s.regs := rfl
@[simp] theorem State.jump_flags (a : Word) : (s.jump a).flags = s.flags := rfl
@[simp] theorem State.jump_sp (a : Word) : (s.jump a).sp = s.sp := rfl
@[simp] theorem State.jump_pc (a : Word) : (s.jump a).pc = a := rfl
@[simp] theorem State.jump_inte (a : Word) : (s.jump a).inte = s.inte := rfl
@[simp] theorem State.jump_halted (a : Word) : (s.jump a).halted = s.halted := rfl
@[simp] theorem State.jump_intPending (a : Word) : (s.jump a).intPending = s.intPending := rfl
@[simp] theorem State.jump_intVector (a : Word) : (s.jump a).intVector = s.intVector := rfl
@[simp] theorem State.jump_mem (a : Word) : (s.jump a).mem = s.mem := rfl
@[simp] theorem State.jump_portEvents (a : Word) : (s.jump a).portEvents = s.portEvents := rfl
@[simp] theorem State.jump_draws (a : Word) : (s.jump a).draws = s.draws := rfl

/-! ## call -/

@[simp] theorem State.call_regs (a : Word) : (s.call a).regs = s.regs := rfl
@[simp] theorem State.call_flags (a : Word) : (s.call a).flags = s.flags := rfl
@[simp] theorem State.call_sp (a : Word) : (s.call a).sp = s.sp - 2 := rfl
@[simp] theorem State.call_pc (a : Word) : (s.call a).pc = a := rfl
@[simp] theorem State.call_inte (a : Word) : (s.call a).inte = s.inte := rfl
@[simp] theorem State.call_halted (a : Word) : (s.call a).halted = s.halted := rfl
@[simp] theorem State.call_intPending (a : Word) : (s.call a).intPending = s.intPending := rfl
@[simp] theorem State.call_intVector (a : Word) : (s.call a).intVector = s.intVector := rfl
@[simp] theorem State.call_portEvents (a : Word) : (s.call a).portEvents = s.portEvents := rfl
@[simp] theorem State.call_draws (a : Word) : (s.call a).draws = s.draws := rfl

/-! ## ret -/

@[simp] theorem State.ret_regs : (s.ret).regs = s.regs := rfl
@[simp] theorem State.ret_flags : (s.ret).flags = s.flags := rfl
@[simp] theorem State.ret_sp : (s.ret).sp = s.sp + 2 := rfl
@[simp] theorem State.ret_pc : (s.ret).pc = s.readWord s.sp := rfl
@[simp] theorem State.ret_inte : (s.ret).inte = s.inte := rfl
@[simp] theorem State.ret_halted : (s.ret).halted = s.halted := rfl
@[simp] theorem State.ret_intPending : (s.ret).intPending = s.intPending := rfl
@[simp] theorem State.ret_intVector : (s.ret).intVector = s.intVector := rfl
@[simp] theorem State.ret_mem : (s.ret).mem = s.mem := rfl
@[simp] theorem State.ret_portEvents : (s.ret).portEvents = s.portEvents := rfl
@[simp] theorem State.ret_draws : (s.ret).draws = s.draws := rfl

end Sys2Proof.Machine
end

