-- ==== Sys2Proof/Laws/Operands.lean ====
section
/-! SUPPORT. Laws of the operand forms: registers, pairs, memory bytes and words. -/

namespace Sys2Proof.Machine

/-! ## Registers and pairs (10_state.md R22 to R26) -/

@[simp] theorem RegFile.get_set_same (f : RegFile) (r : Reg8) (v : Byte) : (f.set r v).get r = v := by
  cases r <;> rfl

theorem RegFile.get_set_other (f : RegFile) {r q : Reg8} (v : Byte) (h : q ≠ r) :
    (f.set r v).get q = f.get q := by
  cases r <;> cases q <;> first | rfl | exact absurd rfl h

theorem RegFile.get_set (f : RegFile) (r q : Reg8) (v : Byte) :
    (f.set r v).get q = if q = r then v else f.get q := by
  split
  · subst_vars
    exact RegFile.get_set_same f _ v
  · exact RegFile.get_set_other f v ‹_›

theorem State.reg_setReg (s : State) (r q : Reg8) (v : Byte) :
    (s.setReg r v).reg q = if q = r then v else s.reg q := RegFile.get_set s.regs r q v

/-- The registers decide what `reg` reads. -/
theorem State.reg_congr {s t : State} (h : t.regs = s.regs) (r : Reg8) : t.reg r = s.reg r := by
  rw [State.reg, State.reg, h]

@[simp] theorem State.bc_setBc (s : State) (v : Word) : (s.setBc v).bc = v :=
  joinBytes_hiByte_loByte v

@[simp] theorem State.de_setDe (s : State) (v : Word) : (s.setDe v).de = v :=
  joinBytes_hiByte_loByte v

@[simp] theorem State.hl_setHl (s : State) (v : Word) : (s.setHl v).hl = v :=
  joinBytes_hiByte_loByte v

@[simp] theorem State.rp_setRp_same (s : State) (p : Rp) (v : Word) : (s.setRp p v).rp p = v := by
  cases p <;> first | exact joinBytes_hiByte_loByte v | rfl

theorem State.rp_setRp_other (s : State) {p q : Rp} (v : Word) (h : q ≠ p) :
    (s.setRp p v).rp q = s.rp q := by
  cases p <;> cases q <;> first | rfl | exact absurd rfl h

/-! ## Memory bytes and words (20_memory.md R62 to R66) -/

/-- Memory decides what `readByte` reads. -/
theorem State.readByte_congr {s t : State} (h : t.mem = s.mem) (a : Word) :
    t.readByte a = s.readByte a := by
  rw [State.readByte, State.readByte, h]

@[simp] theorem State.readByte_writeByte_same (s : State) (a : Word) (v : Byte) :
    (s.writeByte a v).readByte a = v := Memory.lookup_update_same s.mem a.toNat v

theorem State.readByte_writeByte_other (s : State) {a b : Word} (v : Byte) (h : b ≠ a) :
    (s.writeByte a v).readByte b = s.readByte b :=
  Memory.lookup_update_other s.mem v fun e => h (BitVec.eq_of_toNat_eq e)

/-- The two bytes of a word lie at different addresses. -/
theorem succ_ne_self (a : Word) : a + 1 ≠ a := by
  intro h
  bv_omega

@[simp] theorem State.readByte_writeWord_low (s : State) (a v : Word) :
    (s.writeWord a v).readByte a = loByte v := by
  unfold State.writeWord
  rw [State.readByte_writeByte_other _ _ (succ_ne_self a).symm, State.readByte_writeByte_same]

@[simp] theorem State.readByte_writeWord_high (s : State) (a v : Word) :
    (s.writeWord a v).readByte (a + 1) = hiByte v := State.readByte_writeByte_same _ _ _

theorem State.readByte_writeWord_other (s : State) {a b : Word} (v : Word) (h : b ≠ a)
    (h' : b ≠ a + 1) : (s.writeWord a v).readByte b = s.readByte b := by
  unfold State.writeWord
  rw [State.readByte_writeByte_other _ _ h', State.readByte_writeByte_other _ _ h]

@[simp] theorem State.readWord_writeWord (s : State) (a v : Word) :
    (s.writeWord a v).readWord a = v := by
  unfold State.readWord
  rw [State.readByte_writeWord_low, State.readByte_writeWord_high, joinBytes_hiByte_loByte]

/-! ## The stack (47_stack.md R290) -/

/-- A push stores at the new `SP` what a push of the state with that `SP` stores. -/
theorem State.push16_mem (s : State) (v : Word) :
    (s.push16 v).mem = (s.writeWord (s.sp - 2) v).mem := rfl

/-! ## The canonical form of memory -/

theorem State.writeByte_wf {s : State} (a : Word) (v : Byte) (h : Memory.wf s.mem) :
    Memory.wf (s.writeByte a v).mem := Memory.wf_update v h a.isLt

theorem State.writeWord_wf {s : State} (a v : Word) (h : Memory.wf s.mem) :
    Memory.wf (s.writeWord a v).mem := State.writeByte_wf _ _ (State.writeByte_wf _ _ h)

theorem State.push16_wf {s : State} (v : Word) (h : Memory.wf s.mem) :
    Memory.wf (s.push16 v).mem := by
  rw [State.push16_mem]
  exact State.writeWord_wf _ _ h

end Sys2Proof.Machine
end

