-- ==== Sys2Proof/Laws/Sequencer.lean ====
section
/-! SUPPORT. Laws of the fetch and of the step: what each of the three kinds of step does. -/

namespace Sys2Proof.Machine

@[simp] theorem State.fetch8_fst (s : State) : s.fetch8.1 = s.readByte s.pc := rfl

/-- The word `Fetch16()` gives (30_encoding.md R93). -/
@[simp] theorem State.fetch16_fst (s : State) : s.fetch16.1 = s.readWord s.pc := rfl

/-- A step that services an interrupt (60_exceptions.md R326, R327). -/
theorem step_of_pending {s : State} (h : s.intPending = true) : step s = serviceInterrupt s := by
  simp [step, stepUnder, State.gateOpen, Config.intStepGate, h]

/-- A step that fetches (60_exceptions.md R328). -/
theorem step_of_running {s : State} (h : s.intPending = false) (h' : s.halted = false) :
    step s = execute (s.readByte s.pc) { s with pc := s.pc + 1 } := by
  simp [step, stepUnder, fetchAndExecute, State.fetch8, h, h']

/-- A step that idles (60_exceptions.md R329). -/
theorem step_of_halted {s : State} (h : s.intPending = false) (h' : s.halted = true) :
    step s = .next s := by
  simp [step, stepUnder, h, h']

/-- Every step is one of the three kinds (60_exceptions.md R326). -/
theorem step_cases (s : State) :
    (s.intPending = true ∧ step s = serviceInterrupt s) ∨
    (s.intPending = false ∧ s.halted = true ∧ step s = .next s) ∨
    (s.intPending = false ∧ s.halted = false ∧
      step s = execute (s.readByte s.pc) { s with pc := s.pc + 1 }) := by
  by_cases h : s.intPending = true
  · exact .inl ⟨h, step_of_pending h⟩
  have h := Bool.eq_false_iff.2 h
  by_cases h' : s.halted = true
  · exact .inr (.inl ⟨h, h', step_of_halted h h'⟩)
  have h' := Bool.eq_false_iff.2 h'
  exact .inr (.inr ⟨h, h', step_of_running h h'⟩)

/-- Execution of an opcode byte by its form in the opcode map (30_encoding.md R91). -/
theorem execute_cases (op : Byte) (s : State) :
    (∃ i, opcodeForm op = .alone i ∧ execute op s = exec i s) ∨
    (∃ k, opcodeForm op = .withByte k ∧
      execute op s = exec (k (s.readByte s.pc)) { s with pc := s.pc + 1 }) ∨
    (∃ k, opcodeForm op = .withWord k ∧
      execute op s = exec (k (s.readWord s.pc)) { s with pc := s.pc + 1 + 1 }) := by
  unfold execute State.fetchOperand
  cases h : opcodeForm op with
  | alone i => exact .inl ⟨i, rfl, rfl⟩
  | withByte k => exact .inr (.inl ⟨k, rfl, rfl⟩)
  | withWord k => exact .inr (.inr ⟨k, rfl, rfl⟩)

/-- Interrupt service when the vector opcode has a next state (60_exceptions.md R327). -/
theorem serviceInterrupt_of_next {s t : State} (h : execute s.intVector s.beginService = .next t) :
    serviceInterrupt s = .next t.endService := by
  simp [serviceInterrupt, h]

/-- The only next states of interrupt service (60_exceptions.md R327). -/
theorem serviceInterrupt_next {s u : State} (h : serviceInterrupt s = .next u) :
    ∃ t, execute s.intVector s.beginService = .next t ∧ u = t.endService := by
  unfold serviceInterrupt at h
  split at h
  · exact ⟨_, ‹_›, (by cases h; rfl)⟩
  · cases h
  · cases h

end Sys2Proof.Machine
end

