-- ==== Sys2Proof/Laws/Exec.lean ====
section
/-! SUPPORT. What the shared operations of the meanings do, in the terms of Safety.lean, and which
operation each family of instructions is. -/

namespace Sys2Proof.Machine

/-! ## Flags of a result -/

/-- The count of ones and the exclusive or of the bits agree (10_state.md R29, 40_alu_microops.md
R131). -/
theorem evenOnes_eq_parity8 (v : Byte) : evenOnes v = parity8 v := by
  revert v; decide

/-- What `SZP(v)` leaves are the flags of the result `v` (40_alu_microops.md R132). -/
theorem resultFlags_of_szp {v : Byte} {f : Flags} {t : State} (h : t.flags = szp v f) :
    ResultFlags v t := by
  rw [ResultFlags, h]
  exact ⟨rfl, rfl, by rw [szp_p, evenOnes_eq_parity8]⟩

/-- `DAA8` leaves bits 1, 3 and 5 alone (40_alu_microops.md R133, R146). -/
theorem daa8_reserved (a : Byte) (f : Flags) :
    (daa8 a f).2.b1 = f.b1 ∧ (daa8 a f).2.b3 = f.b3 ∧ (daa8 a f).2.b5 = f.b5 := by
  simp only [daa8, daaLow, daaHigh, szp_b1, szp_b3, szp_b5]
  refine ⟨?_, ?_, ?_⟩ <;> split <;> split <;> rfl

/-! ## Writes and their frames -/

theorem setReg_changes (s : State) (r : Reg8) (v : Byte) :
    (s.setReg r v).reg r = v ∧ ChangesRegsOnly [r] s (s.setReg r v) :=
  ⟨RegFile.get_set_same _ _ _, fun _ hq => RegFile.get_set_other _ _ (by simpa using hq),
    fun _ _ => rfl, rfl, ⟨rfl, rfl⟩, ⟨rfl, rfl, rfl, rfl⟩, rfl, rfl⟩

theorem writeByte_changes (s : State) (a : Word) (v : Byte) :
    (s.writeByte a v).readByte a = v ∧ ChangesMemoryOnly [a] s (s.writeByte a v) :=
  ⟨State.readByte_writeByte_same _ _ _,
    fun _ hb => State.readByte_writeByte_other _ _ (by simpa using hb),
    fun _ _ => rfl, rfl, ⟨rfl, rfl⟩, ⟨rfl, rfl, rfl, rfl⟩, rfl, rfl⟩

theorem writeOperand8_writes (s : State) (o : Operand8) (v : Byte) :
    WritesOperand8 o v s (s.writeOperand8 o v) := by
  cases o with
  | reg r => exact ⟨(setReg_changes s r v).1, (setReg_changes s r v).2.1, fun _ _ => rfl⟩
  | m => exact ⟨(writeByte_changes s _ v).1, (writeByte_changes s _ v).2.1, fun _ _ => rfl⟩

/-- An operand replaced through a micro-operation: `INR` and `DCR` (42_inc_dec.md R190). -/
theorem mapOperand8_writes (s : State) (o : Operand8) (op : Byte → Flags → Byte × Flags) :
    WritesOperand8 o (op (s.operand8 o) s.flags).1 s (s.mapOperand8 o op) ∧
      (s.mapOperand8 o op).flags = (op (s.operand8 o) s.flags).2 ∧
      KeepsPointers s (s.mapOperand8 o op) ∧ KeepsSystem s (s.mapOperand8 o op) := by
  refine ⟨?_, rfl, ?_⟩
  · have := writeOperand8_writes s o (op (s.operand8 o) s.flags).1
    cases o <;> exact this
  · cases o <;> exact ⟨⟨rfl, rfl⟩, ⟨rfl, rfl, rfl, rfl⟩, rfl, rfl⟩

theorem setRp_writes (s : State) (p : Rp) (v : Word) :
    WritesPair p v s (s.setRp p v) ∧ (s.setRp p v).flags = s.flags := by
  refine ⟨⟨State.rp_setRp_same _ _ _, fun q h => State.rp_setRp_other s v h, ?_⟩, ?_⟩
  · cases p <;> exact ⟨rfl, rfl, fun _ _ => rfl, ⟨rfl, rfl, rfl, rfl⟩, rfl, rfl⟩
  · cases p <;> rfl

/-- A new accumulator and new flags, and nothing else (43_arithmetic_compare.md R200). -/
theorem setAccFlags_changes (s : State) (v : Byte) (f : Flags) :
    ChangesRegsAndFlags [.a] s { s with regs := { s.regs with a := v }, flags := f } := by
  refine ⟨?_, fun _ _ => rfl, ⟨rfl, rfl⟩, ⟨rfl, rfl, rfl, rfl⟩, rfl, rfl⟩
  intro r hr
  cases r <;> first | rfl | simp at hr

/-- `Push16(v)`: where its two bytes stand and what stays (47_stack.md R290). -/
theorem push16_bytes (s : State) (v : Word) :
    (s.push16 v).readByte (s.sp - 2) = loByte v ∧ (s.push16 v).readByte (s.sp - 1) = hiByte v ∧
      KeepsMemoryBut [s.sp - 2, s.sp - 1] s (s.push16 v) := by
  have e : s.sp - 1 = s.sp - 2 + 1 := by bv_omega
  rw [e]
  refine ⟨State.readByte_writeWord_low _ _ _, State.readByte_writeWord_high _ _ _, fun a ha => ?_⟩
  simp only [List.mem_cons, List.not_mem_nil, or_false, not_or] at ha
  exact State.readByte_writeWord_other _ v ha.1 ha.2

/-- A taken call (46_control_transfer.md R261, R279). -/
theorem call_pushes (s : State) (a : Word) : PushesReturnTo a s (s.call a) := by
  obtain ⟨h1, h2, h3⟩ := push16_bytes s s.pc
  exact ⟨rfl, rfl, h1, h2, h3, fun _ _ => rfl, rfl, ⟨rfl, rfl, rfl, rfl⟩, rfl, rfl⟩

/-- A taken return (46_control_transfer.md R270). -/
theorem ret_returns (s : State) : ReturnsFrom s s.ret :=
  ⟨rfl, rfl, fun _ _ => rfl, fun _ _ => rfl, rfl, ⟨rfl, rfl, rfl, rfl⟩, rfl, rfl⟩

/-! ## Which operation an instruction is -/

theorem exec_inr (o : Operand8) (s : State) : exec (.inr o) s = .next (s.increment8 o) := by
  rcases o with (r | _) <;> first | (cases r <;> rfl) | rfl

theorem exec_dcr (o : Operand8) (s : State) : exec (.dcr o) s = .next (s.decrement8 o) := by
  rcases o with (r | _) <;> first | (cases r <;> rfl) | rfl

theorem exec_jumpIf (cond : Cond) (a : Word) (s : State) :
    exec (.jumpIf cond a) s = .next (s.jumpWhen cond a) := by
  cases cond <;> rfl

theorem exec_callIf (cond : Cond) (a : Word) (s : State) :
    exec (.callIf cond a) s = .next (s.callWhen cond a) := by
  cases cond <;> rfl

theorem exec_retIf (cond : Cond) (s : State) : exec (.retIf cond) s = .next (s.retWhen cond) := by
  cases cond <;> rfl

/-- The eight accumulator operations, on a register, on `M` and on an immediate byte
(43_arithmetic_compare.md R200; 44_logical.md R220). -/
theorem exec_accumulator (src : AccSource) (op : AccOp) (s : State) :
    exec (src.instr op) s = .next (match op with
      | .add => s.accAdd (src.value s) false
      | .adc => s.accAdd (src.value s) s.flags.cy
      | .sub => s.accSub (src.value s) false
      | .sbb => s.accSub (src.value s) s.flags.cy
      | .ana => s.accAnd (src.value s)
      | .xra => s.accXor (src.value s)
      | .ora => s.accOr (src.value s)
      | .cmp => s.accCompare (src.value s)) := by
  rcases src with ((r | _) | v) <;> cases op <;> first | (cases r <;> rfl) | rfl

/-- The encodings of the accumulator operations (30_encoding.md R103, R104). -/
theorem decodes_accumulator (src : AccSource) (op : AccOp) :
    Decodes (src.bytes op) (src.instr op) := by
  rcases src with ((r | _) | v) <;> cases op <;>
    first | (cases r <;> exact fun _ => rfl) | exact fun _ => rfl

/-! ## Every instruction -/

/-- No instruction stops under this configuration (60_exceptions.md R320). -/
theorem exec_completes (i : Instr) (s : State) : ∃ t, exec i s = .next t := by
  cases i <;> exact ⟨_, rfl⟩

theorem State.jumpWhen_mem (s : State) (cond : Cond) (a : Word) : (s.jumpWhen cond a).mem = s.mem := by
  unfold State.jumpWhen; split <;> rfl

theorem State.retWhen_mem (s : State) (cond : Cond) : (s.retWhen cond).mem = s.mem := by
  unfold State.retWhen; split <;> rfl

theorem State.callWhen_wf {s : State} (cond : Cond) (a : Word) (h : Memory.wf s.mem) :
    Memory.wf (s.callWhen cond a).mem := by
  unfold State.callWhen
  split
  · exact State.push16_wf _ h
  · exact h

/-- No instruction breaks the canonical form of memory. -/
theorem exec_wf {i : Instr} {s t : State} (h : Memory.wf s.mem) (ht : exec i s = .next t) :
    Memory.wf t.mem := by
  cases i <;> cases ht
  all_goals first
    | exact h
    | exact State.writeByte_wf _ _ h
    | exact State.writeWord_wf _ _ h
    | exact State.push16_wf _ h
    | exact State.callWhen_wf _ _ h
    | exact (congrArg Memory.wf (State.retWhen_mem s _)).mpr h
    | exact (congrArg Memory.wf (State.jumpWhen_mem s _ _)).mpr h

/-! ## Executing an opcode byte -/

/-- Executing an opcode byte is executing some instruction with `PC` moved (30_encoding.md R91). -/
theorem execute_eq_exec (op : Byte) (s : State) :
    ∃ i pc, execute op s = exec i { s with pc := pc } := by
  rcases execute_cases op s with ⟨i, _, h⟩ | ⟨k, _, h⟩ | ⟨k, _, h⟩
  · exact ⟨i, s.pc, h⟩
  · exact ⟨_, _, h⟩
  · exact ⟨_, _, h⟩

/-- Executing an opcode byte runs the instruction that it and the bytes at `PC` decode to, with `PC`
moved past the operand bytes (30_encoding.md R91 to R93, R111, R116). -/
theorem execute_of_decode {op : Byte} {s : State} {i : Instr} {rest : List Byte}
    (h : decode [op, s.readByte s.pc, s.readByte (s.pc + 1)] = .ok i rest) :
    execute op s = exec i { s with pc := s.pc + BitVec.ofNat 16 (i.length - 1) } := by
  rcases decode_ok h with ⟨op', hf, hb⟩ | ⟨op', k, d, hf, rfl, hb⟩ | ⟨op', k, lo, hi, hf, rfl, hb⟩ <;>
    have hen := opcodeForm_encodes op' <;> rw [hf] at hen <;>
    simp only [OpcodeForm.Encodes] at hen <;> simp only [List.cons.injEq] at hb
  · obtain ⟨rfl, -⟩ := hb
    rcases execute_cases op s with ⟨i', hi, he⟩ | ⟨k, hi, he⟩ | ⟨k, hi, he⟩ <;> rw [hf] at hi <;>
      cases hi
    rw [he]; simp [Instr.length, encode, hen]
  · obtain ⟨rfl, rfl, -⟩ := hb
    rcases execute_cases op s with ⟨i', hi, he⟩ | ⟨k, hi, he⟩ | ⟨k, hi, he⟩ <;> rw [hf] at hi <;>
      cases hi
    rw [he]; simp [Instr.length, encode, hen]
  · obtain ⟨rfl, rfl, rfl, -⟩ := hb
    rcases execute_cases op s with ⟨i', hi, he⟩ | ⟨k, hi, he⟩ | ⟨k, hi, he⟩ <;> rw [hf] at hi <;>
      cases hi
    rw [he]; simp only [Instr.length, encode, hen, wordBytes, State.readWord]
    rw [show s.pc + 1 + 1 = s.pc + BitVec.ofNat 16 ([_, _, _].length - 1) by simp; bv_omega]

end Sys2Proof.Machine
end

