-- ==== Sys2Proof/Tests/Slice0.lean ====
section
/-! SUPPORT. The model's own tests, and for every obligation with hypotheses a concrete state and operands
that meet them. Expected values are those of spec/95_test_vectors.md, spec/30_encoding.md and
spec/opcode_table.json. -/

namespace Sys2Proof.Tests

open Sys2Proof.Machine

/-! ## Well-formedness -/

/-- The one check: opcode 0xCB while `CB_BEHAVIOUR = refuse` (30_encoding.md R109). -/
theorem test_wellFormed_refuses_0xCB : (Instr.jmpCB 0x3E00).wellFormedUnder .refuse = false := by decide

theorem test_wellFormed_accepts : (Instr.jmpCB 0x3E00).wellFormedUnder .jmp = true ∧
    (Instr.jmp 0x3E00).wellFormedUnder .refuse = true := by decide

/-! ## Decoding: every constructor from its encoding in spec/opcode_table.json, operands written out -/

theorem test_decode_row_0 : ∀ x ∈
    (
      [([0b00000000], .nop), ([0b00000001, 0x34, 0x12], .lxiB 0x1234),
       ([0b00000010], .staxB), ([0b00000011], .inxB),
       ([0b00000100], .inrB), ([0b00000101], .dcrB),
       ([0b00000110, 0x5A], .mviB 0x5A), ([0b00000111], .rlc),
       ([0b00001000], .nop08), ([0b00001001], .dadB),
       ([0b00001010], .ldaxB), ([0b00001011], .dcxB),
       ([0b00001100], .inrC), ([0b00001101], .dcrC),
       ([0b00001110, 0x5A], .mviC 0x5A), ([0b00001111], .rrc)]
      : List (List Byte × Instr)),
    decode (x.1 ++ [0xED]) = .ok x.2 [0xED] ∧ encode x.2 = x.1 := by decide

theorem test_decode_row_1 : ∀ x ∈
    (
      [([0b00010000], .nop10), ([0b00010001, 0x34, 0x12], .lxiD 0x1234),
       ([0b00010010], .staxD), ([0b00010011], .inxD),
       ([0b00010100], .inrD), ([0b00010101], .dcrD),
       ([0b00010110, 0x5A], .mviD 0x5A), ([0b00010111], .ral),
       ([0b00011000], .nop18), ([0b00011001], .dadD),
       ([0b00011010], .ldaxD), ([0b00011011], .dcxD),
       ([0b00011100], .inrE), ([0b00011101], .dcrE),
       ([0b00011110, 0x5A], .mviE 0x5A), ([0b00011111], .rar)]
      : List (List Byte × Instr)),
    decode (x.1 ++ [0xED]) = .ok x.2 [0xED] ∧ encode x.2 = x.1 := by decide

theorem test_decode_row_2 : ∀ x ∈
    (
      [([0b00100000], .nop20), ([0b00100001, 0x34, 0x12], .lxiH 0x1234),
       ([0b00100010, 0x34, 0x12], .shld 0x1234), ([0b00100011], .inxH),
       ([0b00100100], .inrH), ([0b00100101], .dcrH),
       ([0b00100110, 0x5A], .mviH 0x5A), ([0b00100111], .daa),
       ([0b00101000], .nop28), ([0b00101001], .dadH),
       ([0b00101010, 0x34, 0x12], .lhld 0x1234), ([0b00101011], .dcxH),
       ([0b00101100], .inrL), ([0b00101101], .dcrL),
       ([0b00101110, 0x5A], .mviL 0x5A), ([0b00101111], .cma)]
      : List (List Byte × Instr)),
    decode (x.1 ++ [0xED]) = .ok x.2 [0xED] ∧ encode x.2 = x.1 := by decide

theorem test_decode_row_3 : ∀ x ∈
    (
      [([0b00110000], .nop30), ([0b00110001, 0x34, 0x12], .lxiSP 0x1234),
       ([0b00110010, 0x34, 0x12], .sta 0x1234), ([0b00110011], .inxSP),
       ([0b00110100], .inrM), ([0b00110101], .dcrM),
       ([0b00110110, 0x5A], .mviM 0x5A), ([0b00110111], .stc),
       ([0b00111000], .nop38), ([0b00111001], .dadSP),
       ([0b00111010, 0x34, 0x12], .lda 0x1234), ([0b00111011], .dcxSP),
       ([0b00111100], .inrA), ([0b00111101], .dcrA),
       ([0b00111110, 0x5A], .mviA 0x5A), ([0b00111111], .cmc)]
      : List (List Byte × Instr)),
    decode (x.1 ++ [0xED]) = .ok x.2 [0xED] ∧ encode x.2 = x.1 := by decide

theorem test_decode_row_4 : ∀ x ∈
    (
      [([0b01000000], .movBB), ([0b01000001], .movBC),
       ([0b01000010], .movBD), ([0b01000011], .movBE),
       ([0b01000100], .movBH), ([0b01000101], .movBL),
       ([0b01000110], .movBM), ([0b01000111], .movBA),
       ([0b01001000], .movCB), ([0b01001001], .movCC),
       ([0b01001010], .movCD), ([0b01001011], .movCE),
       ([0b01001100], .movCH), ([0b01001101], .movCL),
       ([0b01001110], .movCM), ([0b01001111], .movCA)]
      : List (List Byte × Instr)),
    decode (x.1 ++ [0xED]) = .ok x.2 [0xED] ∧ encode x.2 = x.1 := by decide

theorem test_decode_row_5 : ∀ x ∈
    (
      [([0b01010000], .movDB), ([0b01010001], .movDC),
       ([0b01010010], .movDD), ([0b01010011], .movDE),
       ([0b01010100], .movDH), ([0b01010101], .movDL),
       ([0b01010110], .movDM), ([0b01010111], .movDA),
       ([0b01011000], .movEB), ([0b01011001], .movEC),
       ([0b01011010], .movED), ([0b01011011], .movEE),
       ([0b01011100], .movEH), ([0b01011101], .movEL),
       ([0b01011110], .movEM), ([0b01011111], .movEA)]
      : List (List Byte × Instr)),
    decode (x.1 ++ [0xED]) = .ok x.2 [0xED] ∧ encode x.2 = x.1 := by decide

theorem test_decode_row_6 : ∀ x ∈
    (
      [([0b01100000], .movHB), ([0b01100001], .movHC),
       ([0b01100010], .movHD), ([0b01100011], .movHE),
       ([0b01100100], .movHH), ([0b01100101], .movHL),
       ([0b01100110], .movHM), ([0b01100111], .movHA),
       ([0b01101000], .movLB), ([0b01101001], .movLC),
       ([0b01101010], .movLD), ([0b01101011], .movLE),
       ([0b01101100], .movLH), ([0b01101101], .movLL),
       ([0b01101110], .movLM), ([0b01101111], .movLA)]
      : List (List Byte × Instr)),
    decode (x.1 ++ [0xED]) = .ok x.2 [0xED] ∧ encode x.2 = x.1 := by decide

theorem test_decode_row_7 : ∀ x ∈
    (
      [([0b01110000], .movMB), ([0b01110001], .movMC),
       ([0b01110010], .movMD), ([0b01110011], .movME),
       ([0b01110100], .movMH), ([0b01110101], .movML),
       ([0b01110110], .hlt), ([0b01110111], .movMA),
       ([0b01111000], .movAB), ([0b01111001], .movAC),
       ([0b01111010], .movAD), ([0b01111011], .movAE),
       ([0b01111100], .movAH), ([0b01111101], .movAL),
       ([0b01111110], .movAM), ([0b01111111], .movAA)]
      : List (List Byte × Instr)),
    decode (x.1 ++ [0xED]) = .ok x.2 [0xED] ∧ encode x.2 = x.1 := by decide

theorem test_decode_row_8 : ∀ x ∈
    (
      [([0b10000000], .addB), ([0b10000001], .addC),
       ([0b10000010], .addD), ([0b10000011], .addE),
       ([0b10000100], .addH), ([0b10000101], .addL),
       ([0b10000110], .addM), ([0b10000111], .addA),
       ([0b10001000], .adcB), ([0b10001001], .adcC),
       ([0b10001010], .adcD), ([0b10001011], .adcE),
       ([0b10001100], .adcH), ([0b10001101], .adcL),
       ([0b10001110], .adcM), ([0b10001111], .adcA)]
      : List (List Byte × Instr)),
    decode (x.1 ++ [0xED]) = .ok x.2 [0xED] ∧ encode x.2 = x.1 := by decide

theorem test_decode_row_9 : ∀ x ∈
    (
      [([0b10010000], .subB), ([0b10010001], .subC),
       ([0b10010010], .subD), ([0b10010011], .subE),
       ([0b10010100], .subH), ([0b10010101], .subL),
       ([0b10010110], .subM), ([0b10010111], .subA),
       ([0b10011000], .sbbB), ([0b10011001], .sbbC),
       ([0b10011010], .sbbD), ([0b10011011], .sbbE),
       ([0b10011100], .sbbH), ([0b10011101], .sbbL),
       ([0b10011110], .sbbM), ([0b10011111], .sbbA)]
      : List (List Byte × Instr)),
    decode (x.1 ++ [0xED]) = .ok x.2 [0xED] ∧ encode x.2 = x.1 := by decide

theorem test_decode_row_A : ∀ x ∈
    (
      [([0b10100000], .anaB), ([0b10100001], .anaC),
       ([0b10100010], .anaD), ([0b10100011], .anaE),
       ([0b10100100], .anaH), ([0b10100101], .anaL),
       ([0b10100110], .anaM), ([0b10100111], .anaA),
       ([0b10101000], .xraB), ([0b10101001], .xraC),
       ([0b10101010], .xraD), ([0b10101011], .xraE),
       ([0b10101100], .xraH), ([0b10101101], .xraL),
       ([0b10101110], .xraM), ([0b10101111], .xraA)]
      : List (List Byte × Instr)),
    decode (x.1 ++ [0xED]) = .ok x.2 [0xED] ∧ encode x.2 = x.1 := by decide

theorem test_decode_row_B : ∀ x ∈
    (
      [([0b10110000], .oraB), ([0b10110001], .oraC),
       ([0b10110010], .oraD), ([0b10110011], .oraE),
       ([0b10110100], .oraH), ([0b10110101], .oraL),
       ([0b10110110], .oraM), ([0b10110111], .oraA),
       ([0b10111000], .cmpB), ([0b10111001], .cmpC),
       ([0b10111010], .cmpD), ([0b10111011], .cmpE),
       ([0b10111100], .cmpH), ([0b10111101], .cmpL),
       ([0b10111110], .cmpM), ([0b10111111], .cmpA)]
      : List (List Byte × Instr)),
    decode (x.1 ++ [0xED]) = .ok x.2 [0xED] ∧ encode x.2 = x.1 := by decide

theorem test_decode_row_C : ∀ x ∈
    (
      [([0b11000000], .rnz), ([0b11000001], .popB),
       ([0b11000010, 0x34, 0x12], .jnz 0x1234), ([0b11000011, 0x34, 0x12], .jmp 0x1234),
       ([0b11000100, 0x34, 0x12], .cnz 0x1234), ([0b11000101], .pushB),
       ([0b11000110, 0x5A], .adi 0x5A), ([0b11000111], .rst0),
       ([0b11001000], .rz), ([0b11001001], .ret),
       ([0b11001010, 0x34, 0x12], .jz 0x1234), ([0b11001011, 0x34, 0x12], .jmpCB 0x1234),
       ([0b11001100, 0x34, 0x12], .cz 0x1234), ([0b11001101, 0x34, 0x12], .call 0x1234),
       ([0b11001110, 0x5A], .aci 0x5A), ([0b11001111], .rst1)]
      : List (List Byte × Instr)),
    decode (x.1 ++ [0xED]) = .ok x.2 [0xED] ∧ encode x.2 = x.1 := by decide

theorem test_decode_row_D : ∀ x ∈
    (
      [([0b11010000], .rnc), ([0b11010001], .popD),
       ([0b11010010, 0x34, 0x12], .jnc 0x1234), ([0b11010011, 0x5A], .outp 0x5A),
       ([0b11010100, 0x34, 0x12], .cnc 0x1234), ([0b11010101], .pushD),
       ([0b11010110, 0x5A], .sui 0x5A), ([0b11010111], .rst2),
       ([0b11011000], .rc), ([0b11011001], .retD9),
       ([0b11011010, 0x34, 0x12], .jc 0x1234), ([0b11011011, 0x5A], .inp 0x5A),
       ([0b11011100, 0x34, 0x12], .cc 0x1234), ([0b11011101, 0x34, 0x12], .callDD 0x1234),
       ([0b11011110, 0x5A], .sbi 0x5A), ([0b11011111], .rst3)]
      : List (List Byte × Instr)),
    decode (x.1 ++ [0xED]) = .ok x.2 [0xED] ∧ encode x.2 = x.1 := by decide

theorem test_decode_row_E : ∀ x ∈
    (
      [([0b11100000], .rpo), ([0b11100001], .popH),
       ([0b11100010, 0x34, 0x12], .jpo 0x1234), ([0b11100011], .xthl),
       ([0b11100100, 0x34, 0x12], .cpo 0x1234), ([0b11100101], .pushH),
       ([0b11100110, 0x5A], .ani 0x5A), ([0b11100111], .rst4),
       ([0b11101000], .rpe), ([0b11101001], .pchl),
       ([0b11101010, 0x34, 0x12], .jpe 0x1234), ([0b11101011], .xchg),
       ([0b11101100, 0x34, 0x12], .cpe 0x1234), ([0b11101101, 0x34, 0x12], .callED 0x1234),
       ([0b11101110, 0x5A], .xri 0x5A), ([0b11101111], .rst5)]
      : List (List Byte × Instr)),
    decode (x.1 ++ [0xED]) = .ok x.2 [0xED] ∧ encode x.2 = x.1 := by decide

theorem test_decode_row_F : ∀ x ∈
    (
      [([0b11110000], .rp), ([0b11110001], .popPSW),
       ([0b11110010, 0x34, 0x12], .jp 0x1234), ([0b11110011], .di),
       ([0b11110100, 0x34, 0x12], .cp 0x1234), ([0b11110101], .pushPSW),
       ([0b11110110, 0x5A], .ori 0x5A), ([0b11110111], .rst6),
       ([0b11111000], .rm), ([0b11111001], .sphl),
       ([0b11111010, 0x34, 0x12], .jm 0x1234), ([0b11111011], .ei),
       ([0b11111100, 0x34, 0x12], .cm 0x1234), ([0b11111101, 0x34, 0x12], .callFD 0x1234),
       ([0b11111110, 0x5A], .cpi 0x5A), ([0b11111111], .rst7)]
      : List (List Byte × Instr)),
    decode (x.1 ++ [0xED]) = .ok x.2 [0xED] ∧ encode x.2 = x.1 := by decide

/-- The decoder rejects by name what ends too early (30_encoding.md R91, R92). -/
theorem test_decode_rejects : decode [] = .rejected .opcodeMissing ∧
    decode [0x3E] = .rejected (.operandMissing 0x3E) ∧
    decode [0x21, 0x03] = .rejected (.operandMissing 0x21) := by decide

/-- The second and third bytes stand above the opcode byte in a table word, low operand byte first. -/
theorem test_decodeTableWord : decodeTableWord 24 0x010321 = some (.lxiH 0x0103) ∧
    decodeTableWord 8 0x21 = some (.lxiH 0x0000) := by decide

/-! ## One step: spec/95_test_vectors.md -/

/-- What a step shows of its next state. -/
def seen {α : Type} (r : Result) (f : State → α) : Option α :=
  match r with
  | .next t => some (f t)
  | _ => none

/-- The machine after reset with these bytes at 0x0100, `PC` there and `SP` at 0x2400. -/
def at0100 (bytes : List Byte) : State :=
  { State.reset with pc := 0x0100, sp := 0x2400 }.load 0x0100 bytes

/-- `F` as a byte. -/
def fByte (t : State) : Byte := t.flags.toByte

/-- `F` without `AC`: a flag value that is open stands there. -/
def fOpen (t : State) : Byte := { t.flags with ac := false }.toByte

/-- A state with `F` given as a byte. -/
def withF (s : State) (v : Byte) : State := s.hostWriteByte .f v

/-! ### Data transfer (2.8) -/

theorem test_mov_A_B : seen (step ((at0100 [0x78]).setReg .b 0x12))
    (fun t => (t.regs.a, t.regs.b, t.pc)) = some (0x12, 0x12, 0x0101) := by decide

theorem test_mov_M_A : seen (step (((at0100 [0x77]).setHl 0x2B00).setReg .a 0x9C))
    (fun t => (t.readByte 0x2B00, t.readByte 0x2B01)) = some (0x9C, 0x00) := by decide

theorem test_mov_E_M : seen (step (((at0100 [0x5E]).setHl 0xFFFF).writeByte 0xFFFF 0x44))
    (fun t => t.regs.e) = some 0x44 := by decide

theorem test_mov_H_M : seen (step (((at0100 [0x66]).setHl 0x2000).writeByte 0x2000 0x30))
    (fun t => t.hl) = some 0x3000 := by decide

theorem test_mvi_C : seen (step (at0100 [0x0E, 0x7F])) (fun t => (t.regs.c, t.pc))
    = some (0x7F, 0x0102) := by decide

theorem test_mvi_M : seen (step ((at0100 [0x36, 0xFF]).setHl 0x2000)) (fun t => t.readByte 0x2000)
    = some 0xFF := by decide

theorem test_lxi_SP : seen (step (at0100 [0x31, 0x00, 0x24])) (fun t => (t.sp, t.pc))
    = some (0x2400, 0x0103) := by decide

theorem test_lxi_H : seen (step (at0100 [0x21, 0x03, 0x01])) (fun t => (t.regs.h, t.regs.l))
    = some (0x01, 0x03) := by decide

theorem test_lda : seen (step ((at0100 [0x3A, 0x00, 0x03]).writeByte 0x0300 0x5E)) (fun t => t.regs.a)
    = some 0x5E := by decide

theorem test_sta : seen (step ((at0100 [0x32, 0xFF, 0xFF]).setReg .a 0x21))
    (fun t => t.readByte 0xFFFF) = some 0x21 := by decide

theorem test_ldax_D : seen (step (((at0100 [0x1A]).setDe 0x938B).writeByte 0x938B 0x21))
    (fun t => t.regs.a) = some 0x21 := by decide

theorem test_stax_B : seen (step (((at0100 [0x02]).setBc 0x3F16).setReg .a 0x77))
    (fun t => t.readByte 0x3F16) = some 0x77 := by decide

theorem test_lhld : seen (step ((at0100 [0x2A, 0x5B, 0x02]).load 0x025B [0xFF, 0x03]))
    (fun t => (t.regs.l, t.regs.h)) = some (0xFF, 0x03) := by decide

/-- The second byte of the word at 0xFFFF is at 0x0000. -/
theorem test_lhld_wraps : seen (step ((at0100 [0x2A, 0xFF, 0xFF]).load 0xFFFF [0x11, 0x22]))
    (fun t => t.hl) = some 0x2211 := by decide

theorem test_shld : seen (step ((at0100 [0x22, 0x0A, 0x01]).setHl 0xAE29))
    (fun t => (t.readByte 0x010A, t.readByte 0x010B)) = some (0x29, 0xAE) := by decide

theorem test_xchg : seen (step (((at0100 [0xEB]).setHl 0x00FF).setDe 0x3355)) (fun t => (t.hl, t.de))
    = some (0x3355, 0x00FF) := by decide

theorem test_xthl :
    seen (step ((({ at0100 [0xE3] with sp := 0x10AD }).setHl 0x0B3C).load 0x10AD [0xF0, 0x0D]))
      (fun t => (t.hl, t.readByte 0x10AD, t.readByte 0x10AE, t.sp))
    = some (0x0DF0, 0x3C, 0x0B, 0x10AD) := by decide

theorem test_sphl : seen (step ((at0100 [0xF9]).setHl 0x506C)) (fun t => (t.sp, t.pc))
    = some (0x506C, 0x0101) := by decide

/-! ### Increment, decrement (2.3) -/

theorem test_inc8 : ([(0x00, 0x01, 0x03), (0x0F, 0x10, 0x13), (0x7F, 0x80, 0x93),
      (0xFF, 0x00, 0x57), (0x99, 0x9A, 0x87)] :
      List (Byte × Byte × Byte)).all (fun x => decide
    ((inc8 x.1 (Flags.ofByte 0x03)).1 = x.2.1 ∧
      (inc8 x.1 (Flags.ofByte 0x03)).2.toByte = x.2.2)) = true := by decide

theorem test_dec8_borrow : ([(0x00, 0xFF, 0x96), (0x01, 0x00, 0x46), (0x10, 0x0F, 0x16),
      (0x80, 0x7F, 0x12), (0xFF, 0xFE, 0x82)] :
      List (Byte × Byte × Byte)).all (fun x => decide
    ((dec8 .borrow x.1 (Flags.ofByte 0x02)).1 = x.2.1 ∧
      (dec8 .borrow x.1 (Flags.ofByte 0x02)).2.toByte = x.2.2)) = true := by decide

theorem test_dec8_carry : ([(0x00, 0xFF, 0x86), (0x01, 0x00, 0x56), (0x10, 0x0F, 0x06),
      (0x80, 0x7F, 0x02), (0xFF, 0xFE, 0x92)] :
      List (Byte × Byte × Byte)).all (fun x => decide
    ((dec8 .carry x.1 (Flags.ofByte 0x02)).1 = x.2.1 ∧
      (dec8 .carry x.1 (Flags.ofByte 0x02)).2.toByte = x.2.2)) = true := by decide

theorem test_inr_M : seen (step (withF (((at0100 [0x34]).setHl 0x2000).writeByte 0x2000 0xFF) 0x03))
    (fun t => (t.readByte 0x2000, fByte t)) = some (0x00, 0x57) := by decide

theorem test_dcr_B : seen (step (withF ((at0100 [0x05]).setReg .b 0x01) 0x03))
    (fun t => (t.regs.b, fOpen t)) = some (0x00, 0x47) := by decide

theorem test_inx_H : seen (step ((at0100 [0x23]).setHl 0xFFFF)) (fun t => (t.hl, fByte t))
    = some (0x0000, 0x02) := by decide

theorem test_inx_SP : seen (step { at0100 [0x33] with sp := 0xFFFF }) (fun t => t.sp)
    = some 0x0000 := by decide

theorem test_dcx_B : seen (step (at0100 [0x0B])) (fun t => (t.bc, fByte t))
    = some (0xFFFF, 0x02) := by decide

theorem test_dcx_D : seen (step ((at0100 [0x1B]).setDe 0x0100)) (fun t => t.de)
    = some 0x00FF := by decide

/-! ### Arithmetic, compare (2.1, 2.2, 2.4; T4) -/

theorem test_add8 : ([(0xFF, 0x01, false, 0x00, 0x57), (0x2E, 0x6C, false, 0x9A, 0x96),
      (0x7F, 0x01, false, 0x80, 0x92), (0x80, 0x80, false, 0x00, 0x47),
      (0x00, 0x00, false, 0x00, 0x46), (0x3D, 0x42, true, 0x80, 0x92),
      (0xFF, 0xFF, true, 0xFF, 0x97), (0x00, 0xFF, true, 0x00, 0x57),
      (0x0F, 0x0F, true, 0x1F, 0x12), (0x10, 0x0F, true, 0x20, 0x12),
      (0x0F, 0x00, true, 0x10, 0x12)] :
      List (Byte × Byte × Bool × Byte × Byte)).all (fun x => decide
    ((add8 x.1 x.2.1 x.2.2.1 (Flags.ofByte 0x02)).1 = x.2.2.2.1 ∧
      (add8 x.1 x.2.1 x.2.2.1 (Flags.ofByte 0x02)).2.toByte = x.2.2.2.2)) = true := by decide

/-- `F` for `AC_SUB = borrow`; the complement of `AC` is in the test below. -/
theorem test_sub8_borrow : ([(0x3E, 0x3E, false, 0x00, 0x46), (0x00, 0x01, false, 0xFF, 0x97),
      (0x10, 0x01, false, 0x0F, 0x16), (0x80, 0x01, false, 0x7F, 0x12),
      (0x05, 0x0A, false, 0xFB, 0x93), (0x0A, 0x05, false, 0x05, 0x06),
      (0x4A, 0x40, false, 0x0A, 0x06), (0x02, 0x05, false, 0xFD, 0x93),
      (0x04, 0x02, true, 0x01, 0x02), (0x00, 0xFF, true, 0x00, 0x57),
      (0x00, 0x00, true, 0xFF, 0x97), (0xFF, 0xFF, true, 0xFF, 0x97),
      (0xE5, 0x05, false, 0xE0, 0x82), (0x00, 0x80, false, 0x80, 0x83)] :
      List (Byte × Byte × Bool × Byte × Byte)).all (fun x => decide
    ((sub8 .borrow x.1 x.2.1 x.2.2.1 (Flags.ofByte 0x02)).1 = x.2.2.2.1 ∧
      (sub8 .borrow x.1 x.2.1 x.2.2.1 (Flags.ofByte 0x02)).2.toByte = x.2.2.2.2)) = true := by decide

theorem test_sub8_carry :
    (sub8 .carry 0x3E 0x3E false (Flags.ofByte 0x02)).2.toByte = 0x56 ∧
    (sub8 .carry 0x00 0x80 false (Flags.ofByte 0x02)).2.toByte = 0x93 ∧
    (sub8 .carry 0x00 0xFF true (Flags.ofByte 0x02)).2.toByte = 0x47 := by decide

theorem test_adi : seen (step ((at0100 [0xC6, 0x01]).setReg .a 0xFF))
    (fun t => (t.regs.a, fByte t, t.pc)) = some (0x00, 0x57, 0x0102) := by decide

theorem test_adc_C : seen (step (withF (((at0100 [0x89]).setReg .a 0x3D).setReg .c 0x42) 0x03))
    (fun t => (t.regs.a, fByte t)) = some (0x80, 0x92) := by decide

theorem test_sbb_L : seen (step (withF (((at0100 [0x9D]).setReg .a 0x04).setReg .l 0x02) 0x03))
    (fun t => (t.regs.a, fOpen t)) = some (0x01, 0x02) := by decide

theorem test_sui : seen (step (at0100 [0xD6, 0x01])) (fun t => (t.regs.a, fOpen t))
    = some (0xFF, 0x87) := by decide

theorem test_cpi : seen (step ((at0100 [0xFE, 0x05]).setReg .a 0x02)) (fun t => (t.regs.a, fOpen t))
    = some (0x02, 0x83) := by decide

theorem test_cmp_B : seen (step (((at0100 [0xB8]).setReg .a 0x05).setReg .b 0x05))
    (fun t => (t.regs.a, fOpen t)) = some (0x05, 0x46) := by decide

theorem test_add16 : ([(0xA17B, 0x339F, 0xD51A, 0x02), (0xFFFF, 0x0001, 0x0000, 0x03),
      (0x8000, 0x8000, 0x0000, 0x03), (0x0000, 0x0000, 0x0000, 0x02),
      (0xFFFF, 0xFFFF, 0xFFFE, 0x03), (0x00FF, 0x0001, 0x0100, 0x02)] :
      List (Word × Word × Word × Byte)).all (fun x => decide
    ((add16 x.1 x.2.1 (Flags.ofByte 0x02)).1 = x.2.2.1 ∧
      (add16 x.1 x.2.1 (Flags.ofByte 0x02)).2.toByte = x.2.2.2)) = true := by decide

theorem test_dad_H : seen (step ((at0100 [0x29]).setHl 0x1234)) (fun t => (t.hl, fByte t))
    = some (0x2468, 0x02) := by decide

theorem test_dad_B : seen (step (((at0100 [0x09]).setBc 0x339F).setHl 0xA17B))
    (fun t => (t.hl, t.bc)) = some (0xD51A, 0x339F) := by decide

/-! ### Logical (2.5) -/

theorem test_ana_B : seen (step (withF (((at0100 [0xA0]).setReg .a 0xFC).setReg .b 0x0F) 0x03))
    (fun t => (t.regs.a, fOpen t)) = some (0x0C, 0x06) := by decide

theorem test_ani : seen (step ((at0100 [0xE6, 0x0F]).setReg .a 0x3A)) (fun t => (t.regs.a, fOpen t))
    = some (0x0A, 0x06) := by decide

theorem test_xra_A : seen (step (withF ((at0100 [0xAF]).setReg .a 0xFF) 0x03))
    (fun t => (t.regs.a, fOpen t)) = some (0x00, 0x46) := by decide

theorem test_xri : seen (step ((at0100 [0xEE, 0x81]).setReg .a 0x3B)) (fun t => (t.regs.a, fOpen t))
    = some (0xBA, 0x82) := by decide

theorem test_ora_C : seen (step (((at0100 [0xB1]).setReg .a 0x80).setReg .c 0x01))
    (fun t => (t.regs.a, fOpen t)) = some (0x81, 0x86) := by decide

theorem test_ori : seen (step ((at0100 [0xF6, 0x0F]).setReg .a 0xB5)) (fun t => (t.regs.a, fOpen t))
    = some (0xBF, 0x82) := by decide

/-! ### Rotates, decimal adjust, carry, complement (2.6, 2.7) -/

theorem test_rlc8 : ([(0xF2, 0x02, 0xE5, 0x03), (0x00, 0x03, 0x00, 0x02),
      (0x80, 0x02, 0x01, 0x03)] :
      List (Byte × Byte × Byte × Byte)).all (fun x => decide
    ((rlc8 x.1 (Flags.ofByte x.2.1)).1 = x.2.2.1 ∧
      (rlc8 x.1 (Flags.ofByte x.2.1)).2.toByte = x.2.2.2)) = true := by decide

theorem test_rrc8 : ([(0xF2, 0x03, 0x79, 0x02), (0x01, 0x02, 0x80, 0x03)] :
      List (Byte × Byte × Byte × Byte)).all (fun x => decide
    ((rrc8 x.1 (Flags.ofByte x.2.1)).1 = x.2.2.1 ∧
      (rrc8 x.1 (Flags.ofByte x.2.1)).2.toByte = x.2.2.2)) = true := by decide

theorem test_ral8 : (ral8 false 0xB5 (Flags.ofByte 0x03)).1 = 0x6A ∧
    (ral8 false 0x40 (Flags.ofByte 0x03)).1 = 0x80 ∧
    (ral8 true 0xB5 (Flags.ofByte 0x03)).1 = 0x6B := by decide

theorem test_rar8 : (rar8 false 0x6A (Flags.ofByte 0x03)).1 = 0x35 ∧
    (rar8 false 0x81 (Flags.ofByte 0x03)).1 = 0x40 ∧
    (rar8 true 0x81 (Flags.ofByte 0x03)).1 = 0xC0 := by decide

theorem test_ral : seen (step (withF ((at0100 [0x17]).setReg .a 0xB5) 0x03))
    (fun t => (t.regs.a, fByte t)) = some (0x6A, 0x03) := by decide

theorem test_rar : seen (step (withF ((at0100 [0x1F]).setReg .a 0x6A) 0x03))
    (fun t => (t.regs.a, fByte t)) = some (0x35, 0x02) := by decide

theorem test_daa8 : ([(0x9B, 0x02, 0x01, 0x13), (0x00, 0x02, 0x00, 0x46), (0x09, 0x02, 0x09, 0x06),
      (0x0A, 0x02, 0x10, 0x12), (0x99, 0x02, 0x99, 0x86), (0x9A, 0x02, 0x00, 0x57),
      (0xA0, 0x02, 0x00, 0x47), (0x12, 0x12, 0x18, 0x16), (0x12, 0x03, 0x72, 0x07),
      (0x12, 0x13, 0x78, 0x17), (0xFA, 0x02, 0x00, 0x56), (0xFF, 0x02, 0x05, 0x16),
      (0x66, 0x13, 0xCC, 0x97), (0x3C, 0x02, 0x42, 0x16), (0x90, 0x02, 0x90, 0x86),
      (0x9F, 0x02, 0x05, 0x17), (0x7D, 0x02, 0x83, 0x92), (0x13, 0x12, 0x19, 0x12)] :
      List (Byte × Byte × Byte × Byte)).all (fun x => decide
    ((daa8 x.1 (Flags.ofByte x.2.1)).1 = x.2.2.1 ∧
      (daa8 x.1 (Flags.ofByte x.2.1)).2.toByte = x.2.2.2)) = true := by decide

/-- T5. -/
theorem test_daa : seen (step ((at0100 [0x27]).setReg .a 0x9B)) (fun t => (t.regs.a, fByte t))
    = some (0x01, 0x13) := by decide

theorem test_stc_cmc : seen (step (at0100 [0x37])) fByte = some 0x03 ∧
    seen (step (withF (at0100 [0x3F]) 0x03)) fByte = some 0x02 := by decide

theorem test_cma : seen (step ((at0100 [0x2F]).setReg .a 0x51)) (fun t => (t.regs.a, fByte t))
    = some (0xAE, 0x02) := by decide

/-! ### Control transfer (2.9; T8) -/

theorem test_jmp : seen (step (at0100 [0xC3, 0x00, 0x3E])) (fun t => t.pc) = some 0x3E00 ∧
    seen (step (at0100 [0xCB, 0x00, 0x3E])) (fun t => t.pc) = some 0x3E00 := by decide

/-- The opcode at 0xFFFE, its operand bytes at 0xFFFF and 0x0000. -/
theorem test_jmp_wraps :
    seen (step ({ State.reset with pc := 0xFFFE }.load 0xFFFE [0xC3, 0x34, 0x12])) (fun t => t.pc)
    = some 0x1234 := by decide

theorem test_jnz : seen (step (at0100 [0xC2, 0x06, 0x01])) (fun t => t.pc) = some 0x0106 ∧
    seen (step (withF (at0100 [0xC2, 0x06, 0x01]) 0x42)) (fun t => t.pc) = some 0x0103 := by decide

theorem test_jpe_jm :
    seen (step (withF (at0100 [0xEA, 0x00, 0x20]) 0x06)) (fun t => t.pc) = some 0x2000 ∧
    seen (step (withF (at0100 [0xFA, 0x00, 0x20]) 0x82)) (fun t => t.pc) = some 0x2000 := by decide

theorem test_call : ([0xCD, 0xDD, 0xED, 0xFD] :
      List Byte).all (fun op => decide
    (seen (step ({ at0100 [] with pc := 0x0107 }.load 0x0107 [op, 0x10, 0x01]))
      (fun t => (t.readByte 0x23FE, t.readByte 0x23FF, t.sp, t.pc))
    = some (0x0A, 0x01, 0x23FE, 0x0110))) = true := by decide

/-- `SP` wraps, and so do the two bytes pushed. -/
theorem test_call_wraps : seen (step { at0100 [0xCD, 0x10, 0x01] with sp := 0x0001 })
    (fun t => (t.readByte 0xFFFF, t.readByte 0x0000, t.sp)) = some (0x03, 0x01, 0xFFFF) := by decide

theorem test_cnz : seen (step (withF { at0100 [0xC4, 0x00, 0x30] with sp := 0x2000 } 0x42))
      (fun t => (t.pc, t.sp, t.readByte 0x1FFE)) = some (0x0103, 0x2000, 0x00) ∧
    seen (step { at0100 [0xC4, 0x00, 0x30] with sp := 0x2000 })
      (fun t => (t.pc, t.sp, t.readByte 0x1FFE, t.readByte 0x1FFF))
    = some (0x3000, 0x1FFE, 0x03, 0x01) := by decide

theorem test_ret : ([0xC9, 0xD9] :
      List Byte).all (fun op => decide
    (seen (step ({ at0100 [op] with sp := 0x23FE }.load 0x23FE [0x0A, 0x01])) (fun t => (t.pc, t.sp))
    = some (0x010A, 0x2400))) = true := by decide

theorem test_rnc :
    seen (step (withF ({ at0100 [0xD0] with sp := 0x23FE }.load 0x23FE [0x0A, 0x01]) 0x03))
      (fun t => (t.pc, t.sp)) = some (0x0101, 0x23FE) ∧
    seen (step ({ at0100 [0xD0] with sp := 0x23FE }.load 0x23FE [0x0A, 0x01]))
      (fun t => (t.pc, t.sp)) = some (0x010A, 0x2400) := by decide

theorem test_rst : seen (step ({ at0100 [] with pc := 0x0005 }.load 0x0005 [0xCF]))
      (fun t => (t.readByte 0x23FE, t.readByte 0x23FF, t.pc)) = some (0x06, 0x00, 0x0008) ∧
    seen (step (at0100 [0xFF])) (fun t => t.pc) = some 0x0038 := by decide

theorem test_pchl : seen (step ((at0100 [0xE9]).setHl 0x413E)) (fun t => t.pc)
    = some 0x413E := by decide

/-! ### Stack (2.10; T3) -/

theorem test_push_D : seen (step ({ at0100 [0xD5] with sp := 0x3A2C }.setDe 0x8F9D))
    (fun t => (t.readByte 0x3A2A, t.readByte 0x3A2B, t.sp)) = some (0x9D, 0x8F, 0x3A2A) := by decide

theorem test_push_PSW : seen (step (withF ({ at0100 [0xF5] with sp := 0x502A }.setReg .a 0x1F) 0x47))
    (fun t => (t.readByte 0x5028, t.readByte 0x5029, t.sp)) = some (0x47, 0x1F, 0x5028) := by decide

theorem test_pop_H : seen (step ({ at0100 [0xE1] with sp := 0x1239 }.load 0x1239 [0x3D, 0x93]))
    (fun t => (t.regs.l, t.regs.h, t.sp)) = some (0x3D, 0x93, 0x123B) := by decide

theorem test_pop_PSW : ([(0xC3, 0xC3), (0xFF, 0xD7), (0x00, 0x02), (0x28, 0x02)] :
      List (Byte × Byte)).all (fun x => decide
    (seen (step ({ at0100 [0xF1] with sp := 0x2C00 }.load 0x2C00 [x.1, 0xFF]))
      (fun t => (t.regs.a, fByte t, t.sp)) = some (0xFF, x.2, 0x2C02))) = true := by decide

/-- The stack wraps at the top of memory. -/
theorem test_pop_wraps : seen (step ({ at0100 [0xC1] with sp := 0xFFFF }.load 0xFFFF [0x11, 0x22]))
    (fun t => (t.regs.c, t.regs.b, t.sp)) = some (0x11, 0x22, 0x0001) := by decide

theorem test_push_wraps : seen (step ({ at0100 [0xC5] with sp := 0x0000 }.setBc 0x1234))
    (fun t => (t.readByte 0xFFFE, t.readByte 0xFFFF, t.sp)) = some (0x34, 0x12, 0xFFFE) := by decide

/-! ### Input, output, interrupt control, halt, no operation (2.11) -/

/-- The byte is the host's, so only what does not depend on it is fixed. -/
theorem test_in : ∃ t, step (at0100 [0xDB, 0x01]) = .next t ∧ t.portEvents = [.inp 0x01 t.regs.a] ∧
    t.pc = 0x0102 := ⟨_, rfl, rfl, rfl⟩

theorem test_out : seen (step ((at0100 [0xD3, 0x10]).setReg .a 0x55))
    (fun t => (t.portEvents, t.regs.a, t.pc)) = some ([.out 0x10 0x55], 0x55, 0x0102) := by decide

theorem test_di_ei : seen (step (at0100 [0xF3])) (fun t => t.inte) = some false ∧
    seen (step { at0100 [0xFB] with inte := false }) (fun t => t.inte) = some true := by decide

theorem test_hlt : seen (step (at0100 [0x76])) (fun t => (t.halted, t.pc)) = some (true, 0x0101) ∧
    seen (step { at0100 [0x3C] with halted := true }) (fun t => (t.pc, t.regs.a))
    = some (0x0100, 0x00) := by decide

/-- T9. -/
theorem test_nop : ([0x00, 0x08, 0x10, 0x18, 0x20, 0x28, 0x30, 0x38] :
      List Byte).all (fun op => decide
    (seen (step (at0100 [op])) id = some { at0100 [op] with pc := 0x0101 })) = true := by decide

/-! ### Interrupts (2.12; T7) -/

/-- Two requests, the second dropped; then `RST 1` is serviced. -/
theorem test_interrupt :
    seen (step (({ State.reset with halted := true, pc := 0x0005, sp := 0x2400 }.interrupt 0xCF).interrupt
        0xD7))
      (fun t => ([t.inte, t.intPending, t.halted], [t.pc, t.sp],
        [t.readByte 0x23FE, t.readByte 0x23FF]))
    = some ([false, false, false], [0x0008, 0x23FE], [0x05, 0x00]) := by decide

theorem test_interrupt_dropped : { State.reset with inte := false }.interrupt 0xCF
    = { State.reset with inte := false } := by decide

/-- `NOP`, `HLT` and `EI` as vector: `PC` stays; `HALTED` ends 0; `EI` leaves `INTE` at 1. -/
theorem test_interrupt_vectors : ([(0x00, false), (0x76, false), (0xFB, true)] :
      List (Byte × Bool)).all (fun x => decide
    (seen (step ((at0100 [0x3C]).interrupt x.1))
      (fun t => (t.pc, t.halted, t.inte, t.intPending, t.regs.a))
    = some (0x0100, false, x.2, false, 0x00))) = true := by decide

/-- `CALL` as vector takes its operand bytes from memory at `PC`. -/
theorem test_interrupt_call : seen (step ((at0100 [0x34, 0x12]).interrupt 0xCD))
    (fun t => (t.pc, t.readByte 0x23FE, t.readByte 0x23FF)) = some (0x1234, 0x02, 0x01) := by decide

/-! ### The placed instruction -/

theorem test_withFetchWord : seen (step (State.reset.withFetchWord 24 0x010321)) (fun t => t.hl)
      = some 0x0103 ∧
    seen (step (({ State.reset with pc := 0xFFFE }).withFetchWord 8 0xC3)) (fun t => t.pc)
      = some 0x0000 := by decide

/-! ## Witnesses: for each obligation with hypotheses, operands and a state that meet them

A statement whose hypotheses are only `x ∈ [...]` over a list written in it, or that has none, needs
no witness of its own. -/

/-- A machine at the top of memory: opcode at 0xFFFF, operand bytes at 0x0000 and 0x0001. -/
def atTop (bytes : List Byte) : State :=
  { State.reset with pc := 0xFFFF, sp := 0x2400 }.load 0xFFFF bytes

/-- The three bytes from `PC` on, as the statements about a step read them. -/
def fetched (s : State) : List Byte :=
  [s.readByte s.pc, s.readByte (s.pc + 1), s.readByte (s.pc + 2)]

theorem test_witness_DecodeInvertsEncode : (Instr.lxiH 0x1234).wellFormed = true ∧
    (Instr.jmpCB 0xFFFF).wellFormed = true := by decide

theorem test_witness_EncodeInvertsDecode :
    decode [0xCB, 0xFF, 0xFF, 0x76] = .ok (.jmpCB 0xFFFF) [0x76] := by decide

/-- One byte, two bytes, three bytes. -/
theorem test_witness_LengthFollowsOpcode :
    decode (0xFF :: []) = .ok .rst7 [] ∧ decode (0xDB :: [0x01, 0x76]) = .ok (.inp 0x01) [0x76] ∧
    decode (0xFD :: [0x34, 0x12, 0x76]) = .ok (.callFD 0x1234) [0x76] := by decide

theorem test_witness_ByteReadAfterWrite : (0x0000 : Word) ≠ 0xFFFF := by decide

/-- The word at 0xFFFF: its second byte is at 0x0000, and 0x0001 is outside it. -/
theorem test_witness_WordAccessIsLittleEndian : (0x0001 : Word) ≠ 0xFFFF ∧
    (0x0001 : Word) ≠ BitVec.ofNat 16 (((0xFFFF : Word).toNat + 1) % 65536) := by decide

theorem test_witness_CanonicalMemoriesAreEqual :
    Memory.wf (Memory.update (Memory.update [] 0 7) 65535 9) ∧ Memory.wf [(0, 7), (65535, 9)] ∧
    ∀ a : Nat, a < 65536 →
      Memory.lookup (Memory.update (Memory.update [] 0 7) 65535 9) a =
        Memory.lookup [(0, 7), (65535, 9)] a :=
  ⟨by decide, by decide, fun _ _ => rfl⟩

theorem test_witness_PairsAliasTheirHalves : HostByte.b ≠ .c ∧ HostByte.a ≠ .f := by decide

/-- Both clauses. -/
theorem test_witness_InterruptRequestProtocol : State.reset.inte = true ∧
    (State.reset.interrupt 0xCF).inte = false := by decide

/-- The three clauses under each gate: pending and open; nothing pending or gate shut, running; the
same, halted. Under `pending_and_inte` the middle ones have a request pending with `INTE = 0`. -/
theorem test_witness_StepDecidesInOrder :
    let gate : Config.IntStepGate → State → Prop :=
      fun g s => g = .pendingOnly ∨ (g = .pendingAndInte ∧ s.inte = true)
    let h : State := { State.reset with halted := true }
    let p : State := State.reset.interrupt 0xCF
    let q : State := { p with inte := true }
    let r : State := { p with halted := true }
    (p.intPending = true ∧ gate .pendingOnly p) ∧
    (¬(State.reset.intPending = true ∧ gate .pendingOnly State.reset) ∧ State.reset.halted = false) ∧
    (¬(h.intPending = true ∧ gate .pendingOnly h) ∧ h.halted = true) ∧
    (q.intPending = true ∧ gate .pendingAndInte q) ∧
    (¬(p.intPending = true ∧ gate .pendingAndInte p) ∧ p.halted = false) ∧
    (¬(r.intPending = true ∧ gate .pendingAndInte r) ∧ r.halted = true) := by decide

/-- Lengths 1, 2 and 3, at the top of memory. -/
theorem test_witness_StepRunsDecodedInstruction :
    ((atTop [0x76]).intPending = false ∧ (atTop [0x76]).halted = false) ∧
    decode (fetched (atTop [0x76])) = .ok .hlt [0x00, 0x00] ∧
    decode (fetched (atTop [0x3E, 0x42])) = .ok (.mviA 0x42) [0x00] ∧
    decode (fetched (atTop [0x21, 0x34, 0x12])) = .ok (.lxiH 0x1234) [] := by decide

theorem test_witness_StepServicesPendingInterrupt :
    let s := (atTop [0x34, 0x12]).interrupt 0xCD
    s.intPending = true ∧
      decode [s.intVector, s.readByte s.pc, s.readByte (s.pc + 1)] = .ok (.call 0x1234) [] := by decide

/-- `RST 0` and `RST 7` as vector. -/
theorem test_witness_RestartVectorService :
    let s := State.reset.interrupt 0xC7
    let t := State.reset.interrupt 0xFF
    s.intPending = true ∧ s.intVector = BitVec.ofNat 8 (0xC7 + 8 * (0 : Fin 8).val) ∧
    t.intPending = true ∧ t.intVector = BitVec.ofNat 8 (0xC7 + 8 * (7 : Fin 8).val) := by decide

/-- First part: a halted machine with a pending `NOP` runs on. Second part: the permanent halt, with a
step and a request. -/
theorem test_witness_HaltWithInterruptsDisabledIsPermanent :
    ({ State.reset with halted := true }.interrupt 0x00).halted = true ∧
    seen (({ State.reset with halted := true }.interrupt 0x00).apply .step) (fun t => t.halted)
      = some false ∧
    Hung { State.reset with halted := true, inte := false } ∧
    ∀ m ∈ [Move.step, .host (.interrupt 0xCF)], m = .step ∨ ∃ v, m = .host (.interrupt v) :=
  ⟨by decide, by decide, (by simp only [Hung]; decide), by simp⟩

/-- The invariant with a request pending and memory listed, and a step from there. -/
theorem test_witness_StepKeepsInvariant :
    let s := (at0100 [0x77]).interrupt 0xCF
    Machine.Inv s ∧ ∃ t, step s = .next t :=
  ⟨by simp only [Machine.Inv]; decide, _, rfl⟩

theorem test_witness_ResetMeetsInvariant :
    ({ ResetDraws.zero with sp := 0x2400, mem := [(0, 0x76), (65535, 1)] } : ResetDraws).wf := by
  simp only [ResetDraws.wf]; decide

/-- The invariant; a move that is no request. -/
theorem test_witness_HostMovesKeepInvariant : Machine.Inv (at0100 [0x77]) ∧
    ∀ v, HostMove.writeFlag 7 true ≠ .interrupt v :=
  ⟨by simp only [Machine.Inv]; decide, fun _ h => nomatch h⟩

theorem test_witness_PendingImpliesDisabled :
    Reachable (State.reset.interrupt 0xCF) ∧ (State.reset.interrupt 0xCF).intPending = true :=
  ⟨.move (m := .host (.interrupt 0xCF)) (.reset ResetDraws.zero (by simp only [ResetDraws.wf]; decide))
    rfl, rfl⟩

/-- An instruction that is neither `PUSH PSW` nor `POP PSW`, with its next state. -/
theorem test_witness_ReservedFlagBits : Instr.stc ≠ .popPSW ∧ Instr.stc ≠ .pushPSW ∧
    exec .stc State.reset = .next (State.reset.mapFlags setCarry) :=
  ⟨by decide, by decide, rfl⟩

/-- One instruction of each row of the table. -/
theorem test_witness_FlagTable :
    ∀ x ∈ [(Instr.nop, FlagRow.none), (.popPSW, .fromStack), (.inrM, .incDec8), (.sbbA, .arithmetic),
      (.dadSP, .dad), (.xraM, .logical), (.rar, .rotate), (.daa, .daa), (.stc, .stc), (.cmc, .cmc)],
    x.1.flagRow = x.2 ∧ ∃ t, exec x.1 State.reset = .next t := by
  simp only [List.forall_mem_cons, List.not_mem_nil, false_imp_iff, implies_true, and_true]
  exact ⟨⟨rfl, _, rfl⟩, ⟨rfl, _, rfl⟩, ⟨rfl, _, rfl⟩, ⟨rfl, _, rfl⟩, ⟨rfl, _, rfl⟩, ⟨rfl, _, rfl⟩,
    ⟨rfl, _, rfl⟩, ⟨rfl, _, rfl⟩, ⟨rfl, _, rfl⟩, ⟨rfl, _, rfl⟩⟩

theorem test_witness_OnlyEiDiHltWriteLatches : Instr.nop ≠ .ei ∧ Instr.nop ≠ .di ∧ Instr.nop ≠ .hlt ∧
    exec .nop State.reset = .next State.reset :=
  ⟨by decide, by decide, by decide, rfl⟩

theorem test_witness_OnlyListedInstructionsWritePointers :
    (Instr.staxB.mayWriteSp = false ∧ Instr.staxB.transfersControl = false) ∧
    ∃ t, exec .staxB State.reset = .next t := ⟨by decide, _, rfl⟩

theorem test_witness_OnlyListedInstructionsReachMemoryOrPorts :
    Instr.popB.storesToMemory = false ∧ (∀ p, Instr.popB ≠ .inp p) ∧ (∀ p, Instr.popB ≠ .outp p) ∧
    ∃ t, exec .popB State.reset = .next t :=
  ⟨rfl, fun _ h => (nomatch h), fun _ h => (nomatch h), _, rfl⟩

/-- The two clauses about `AC` after a subtraction, a decrement or a compare: `AC_SUB` is open, and one of
its two values is the machine's. -/
theorem test_witness_AcFromBorrow : Config.acSub = .borrow ∨ Config.acSub = .carry := by
  cases Config.acSub
  · exact .inl rfl
  · exact .inr rfl

/-- Each clause of the two corrections at its boundary: low nibble 9 and 0xA, `AC`; high nibble 9 and 0xA
after the low correction, `CY`. -/
theorem test_witness_DaaAdjustsAccumulator :
    ¬((0x09 : Byte).toNat % 16 > 9 ∨ (Flags.ofByte 0x02).ac = true) ∧
    ((0x0A : Byte).toNat % 16 > 9 ∨ (Flags.ofByte 0x02).ac = true) ∧
    ((0x00 : Byte).toNat % 16 > 9 ∨ (Flags.ofByte 0x12).ac = true) ∧
    ¬((0x99 : Byte).toNat / 16 > 9 ∨ (Flags.ofByte 0x02).cy = true) ∧
    ((0x9A + 0x06 : Byte).toNat / 16 > 9 ∨ (Flags.ofByte 0x02).cy = true) ∧
    ((0x00 : Byte).toNat / 16 > 9 ∨ (Flags.ofByte 0x03).cy = true) := by decide

/-- Two packed decimal bytes whose binary sum is 0xF9, 0xFA, 0xFF and 0x100. -/
theorem test_witness_AddThenDaaIsDecimal :
    let bcd : Byte → Prop := fun v => v.toNat / 16 < 10 ∧ v.toNat % 16 < 10
    (bcd 0x90 ∧ bcd 0x91 ∧ bcd 0x99 ∧ bcd 0x66 ∧ bcd 0x67 ∧ bcd 0x69) ∧
    (0x90 : Byte).toNat + (0x69 : Byte).toNat = 0xF9 ∧
    (0x91 : Byte).toNat + (0x69 : Byte).toNat = 0xFA ∧
    (0x99 : Byte).toNat + (0x66 : Byte).toNat = 0xFF ∧
    (0x99 : Byte).toNat + (0x67 : Byte).toNat = 0x100 := by decide

/-- Each of the eight conditions holds in one state and fails in the other: the hypotheses of the taken
and of the untaken form of the conditional jumps, calls and returns. -/
theorem test_witness_Conditions :
    let set := withF State.reset 0xFF
    let clear := withF State.reset 0x00
    (set.flags.z = true ∧ set.flags.cy = true ∧ set.flags.p = true ∧ set.flags.s = true) ∧
    (clear.flags.z = false ∧ clear.flags.cy = false ∧ clear.flags.p = false ∧
      clear.flags.s = false) := by decide

/-- A jump and a return that are not taken, fetched at the top of memory. -/
theorem test_witness_UntakenTransferOnlyAdvances :
    let s := atTop [0xCA, 0x34, 0x12]
    let t := atTop [0xC8]
    (s.intPending = false ∧ s.halted = false ∧ s.flags.cond .z = false ∧
      decode (fetched s) = .ok (.jumpIf .z 0x1234) []) ∧
    (t.intPending = false ∧ t.halted = false ∧ t.flags.cond .z = false ∧
      decode (fetched t) = .ok (.retIf .z) [0x00, 0x00]) := by decide

theorem test_witness_PushThenPopCopiesPair : Rpq.de ≠ .psw := by decide

/-- `MOV M,A` at 0xFFFF with `HL` = 0x0000 stores 0x76 there, and that byte is the next opcode. -/
theorem test_witness_StoreIsSeenByNextFetch :
    let s := (atTop [0x77]).setReg .a 0x76
    s.intPending = false ∧ s.halted = false ∧
      s.readByte s.pc = BitVec.ofNat 8 (0x70 + Reg8.a.code.toNat) ∧ s.hl = s.pc + 1 ∧
      decode [s.reg .a, 0x00, 0x00] = .ok .hlt [0x00, 0x00] ∧
      seen (step s) (fun t => [t.readByte (t.pc + 1), t.readByte (t.pc + 2)])
        = some [0x00, 0x00] := by decide

end Sys2Proof.Tests
end

section
/-! PROOFS. The state, family 10_state.md: the accessors, reset, the invariant, and which instruction
writes which flag, latch and pointer. -/

namespace Sys2Proof.Machine

/-! ## Transfers that depend on a condition

Whether or not the condition holds, such a transfer writes `PC`, and a call or return the stack, and
nothing else (46_control_transfer.md R250, R251). -/

section
variable (s : State) (cond : Cond) (a : Word)

@[simp] theorem State.jumpWhen_flags : (s.jumpWhen cond a).flags = s.flags := by
  unfold State.jumpWhen; split <;> rfl

@[simp] theorem State.callWhen_flags : (s.callWhen cond a).flags = s.flags := by
  unfold State.callWhen; split <;> rfl

@[simp] theorem State.retWhen_flags : (s.retWhen cond).flags = s.flags := by
  unfold State.retWhen; split <;> rfl

@[simp] theorem State.jumpWhen_sp : (s.jumpWhen cond a).sp = s.sp := by
  unfold State.jumpWhen; split <;> rfl

theorem State.jumpWhen_latches : KeepsLatches s (s.jumpWhen cond a) := by
  unfold State.jumpWhen; split <;> exact ⟨rfl, rfl, rfl, rfl⟩

theorem State.callWhen_latches : KeepsLatches s (s.callWhen cond a) := by
  unfold State.callWhen; split <;> exact ⟨rfl, rfl, rfl, rfl⟩

theorem State.retWhen_latches : KeepsLatches s (s.retWhen cond) := by
  unfold State.retWhen; split <;> exact ⟨rfl, rfl, rfl, rfl⟩

end

/-! ## The latches (10_state.md R40 to R43) -/

/-- Every instruction but `EI`, `DI` and `HLT` leaves the four latches alone. -/
theorem exec_keepsLatches {i : Instr} {s t : State} (hei : i ≠ .ei) (hdi : i ≠ .di)
    (hhlt : i ≠ .hlt) (h : exec i s = .next t) : KeepsLatches s t := by
  cases i <;> cases h
  case ei => exact absurd rfl hei
  case di => exact absurd rfl hdi
  case hlt => exact absurd rfl hhlt
  case jnz a | jz a | jnc a | jc a | jpo a | jpe a | jp a | jm a =>
    exact State.jumpWhen_latches s _ a
  case cnz a | cz a | cnc a | cc a | cpo a | cpe a | cp a | cm a =>
    exact State.callWhen_latches s _ a
  case rnz | rz | rnc | rc | rpo | rpe | rp | rm => exact State.retWhen_latches s _
  all_goals exact ⟨rfl, rfl, rfl, rfl⟩

/-- Settles O25: `exec_keepsLatches`, and the three instructions it leaves out each write one latch. -/
theorem onlyEiDiHltWriteLatches : Obligations.OnlyEiDiHltWriteLatches := by
  intro i s t h
  by_cases hei : i = .ei
  · subst hei; cases h
    exact ⟨fun hne => absurd rfl hne, fun _ => rfl, rfl, rfl⟩
  by_cases hdi : i = .di
  · subst hdi; cases h
    exact ⟨fun _ hne => absurd rfl hne, fun _ => rfl, rfl, rfl⟩
  by_cases hhlt : i = .hlt
  · subst hhlt; cases h
    exact ⟨fun _ _ => rfl, fun hne => absurd rfl hne, rfl, rfl⟩
  obtain ⟨hinte, hhalted, hpending, hvector⟩ := exec_keepsLatches hei hdi hhlt h
  exact ⟨fun _ _ => hinte, fun _ => hhalted, hpending, hvector⟩

/-- Executing an opcode byte makes no request and drops none (10_state.md R42). -/
theorem execute_intPending {op : Byte} {s t : State} (h : execute op s = .next t) :
    t.intPending = s.intPending := by
  obtain ⟨i, pc, he⟩ := execute_eq_exec op s
  obtain ⟨-, -, hpending, -⟩ := onlyEiDiHltWriteLatches i _ t (he ▸ h)
  exact hpending

/-- Executing an opcode byte keeps the canonical form of memory. -/
theorem execute_wf {op : Byte} {s t : State} (hm : Memory.wf s.mem) (h : execute op s = .next t) :
    Memory.wf t.mem := by
  obtain ⟨i, pc, he⟩ := execute_eq_exec op s
  exact exec_wf (s := { s with pc := pc }) hm (he ▸ h)

/-! ## The invariant (10_state.md R48) -/

/-- Settles O19, by the three kinds of step: service ends with no request pending, an idle step changes
nothing, and a fetch happens with no request pending and makes none. -/
theorem stepKeepsInvariant : Obligations.StepKeepsInvariant := by
  intro s t ⟨hm, hint⟩ h
  rcases step_cases s with ⟨-, hs⟩ | ⟨-, -, hs⟩ | ⟨hp, -, hs⟩ <;> rw [hs] at h
  · obtain ⟨u, hu, rfl⟩ := serviceInterrupt_next h
    exact ⟨execute_wf (s := s.beginService) (t := u) hm hu, fun hpending => Bool.noConfusion hpending⟩
  · cases h
    exact ⟨hm, hint⟩
  · have hpt : t.intPending = false := (execute_intPending h).trans hp
    exact ⟨execute_wf (s := { s with pc := s.pc + 1 }) hm h, fun hpending =>
      Bool.noConfusion (hpt.symm.trans hpending)⟩

theorem ResetDraws.zero_wf : ResetDraws.zero.wf := ⟨List.Pairwise.nil, by simp [ResetDraws.zero]⟩

/-- Reset leaves no request pending, so only its memory is in question. -/
theorem inv_resetWith {d : ResetDraws} (hd : d.wf) : Inv (State.resetWith d) :=
  ⟨hd, fun hpending => Bool.noConfusion hpending⟩

/-- Settles O20: `inv_resetWith`, the memory of the zero draw being empty. -/
theorem resetMeetsInvariant : Obligations.ResetMeetsInvariant :=
  ⟨fun _ hd => inv_resetWith hd, inv_resetWith ResetDraws.zero_wf⟩

/-- Settles O11: `State.resetWith` names each field, and `RESET_PC` is absent. -/
theorem resetGivesLatchesAndBitOne : Obligations.ResetGivesLatchesAndBitOne :=
  ⟨fun _ => ⟨rfl, rfl, rfl, rfl, rfl, rfl, rfl, rfl, rfl, rfl, rfl, rfl⟩, rfl⟩

/-! ## Moves of the host (60_exceptions.md R338, R339, R346) -/

theorem State.load_wf {s : State} (origin : Word) (code : List Byte) (h : Memory.wf s.mem) :
    Memory.wf (s.load origin code).mem := by
  induction code generalizing s origin with
  | nil => exact h
  | cons v code ih => exact ih (origin + 1) (State.writeByte_wf origin v h)

theorem State.load_latches (s : State) (origin : Word) (code : List Byte) :
    KeepsLatches s (s.load origin code) := by
  induction code generalizing s origin with
  | nil => exact ⟨rfl, rfl, rfl, rfl⟩
  | cons v code ih => exact ih (s.writeByte origin v) (origin + 1)

theorem State.hostWriteByte_latches (s : State) (x : HostByte) (v : Byte) :
    KeepsLatches s (s.hostWriteByte x v) := by
  cases x <;> exact ⟨rfl, rfl, rfl, rfl⟩

theorem State.hostWriteWord_latches (s : State) (x : HostWord) (v : Word) :
    KeepsLatches s (s.hostWriteWord x v) := by
  cases x <;> exact ⟨rfl, rfl, rfl, rfl⟩

@[simp] theorem State.hostWriteByte_mem (s : State) (x : HostByte) (v : Byte) :
    (s.hostWriteByte x v).mem = s.mem := by
  cases x <;> rfl

@[simp] theorem State.hostWriteWord_mem (s : State) (x : HostWord) (v : Word) :
    (s.hostWriteWord x v).mem = s.mem := by
  cases x <;> rfl

@[simp] theorem State.interrupt_mem (s : State) (v : Byte) : (s.interrupt v).mem = s.mem := by
  unfold State.interrupt; split <;> rfl

/-- No move of the host but a request reaches a latch (R339: the latches have no write accessor). -/
theorem State.hostMove_latches (s : State) {m : HostMove} (h : ∀ v, m ≠ .interrupt v) :
    KeepsLatches s (s.hostMove m) := by
  cases m with
  | interrupt v => exact absurd rfl (h v)
  | load origin code => exact s.load_latches origin code
  | writeMemory addr v => exact ⟨rfl, rfl, rfl, rfl⟩
  | writeByte x v => exact s.hostWriteByte_latches x v
  | writeWord x v => exact s.hostWriteWord_latches x v
  | writeFlag i b => exact ⟨rfl, rfl, rfl, rfl⟩

theorem State.hostMove_wf {s : State} (m : HostMove) (h : Memory.wf s.mem) :
    Memory.wf (s.hostMove m).mem := by
  cases m with
  | interrupt v => exact (s.interrupt_mem v).symm ▸ h
  | load origin code => exact State.load_wf origin code h
  | writeMemory addr v => exact State.writeByte_wf addr v h
  | writeByte x v => exact (s.hostWriteByte_mem x v).symm ▸ h
  | writeWord x v => exact (s.hostWriteWord_mem x v).symm ▸ h
  | writeFlag i b => exact h

/-- A request that is accepted clears `INTE` as it sets `INT_PENDING` (60_exceptions.md R323). -/
theorem State.interrupt_pending_disabled {s : State} (v : Byte)
    (h : s.intPending = true → s.inte = false) :
    (s.interrupt v).intPending = true → (s.interrupt v).inte = false := by
  unfold State.interrupt
  split
  · exact fun _ => rfl
  · exact h

/-- `INT_PENDING = 1` implies `INTE = 0` also after a move of the host. -/
theorem State.hostMove_pending_disabled {s : State} (m : HostMove)
    (h : s.intPending = true → s.inte = false) :
    (s.hostMove m).intPending = true → (s.hostMove m).inte = false := by
  by_cases hm : ∃ v, m = .interrupt v
  · obtain ⟨v, rfl⟩ := hm
    exact State.interrupt_pending_disabled v h
  · obtain ⟨hinte, -, hpending, -⟩ := s.hostMove_latches (not_exists.1 hm)
    rwa [hinte, hpending]

/-- Settles O21, from what each move does to memory and to the latches. -/
theorem hostMovesKeepInvariant : Obligations.HostMovesKeepInvariant :=
  fun s m => ⟨fun ⟨hm, hint⟩ => ⟨State.hostMove_wf m hm, State.hostMove_pending_disabled m hint⟩,
    s.hostMove_latches⟩

/-! ## The accessors (10_state.md R22 to R27, R36, R46) -/

@[simp] theorem State.hostReadByte_hostWriteByte_same (s : State) (x : HostByte) (v : Byte) :
    (s.hostWriteByte x v).hostReadByte x = v := by
  cases x
  case f => exact Flags.toByte_ofByte v
  all_goals rfl

theorem State.hostReadByte_hostWriteByte_other (s : State) {x y : HostByte} (v : Byte) (h : y ≠ x) :
    (s.hostWriteByte x v).hostReadByte y = s.hostReadByte y := by
  cases x <;> cases y <;> first | rfl | exact absurd rfl h

/-- The accessors of the pair `x` go to the storage of the bytes `hi` and `lo` (R22 to R25). -/
def IsViewOf (x : HostWord) (hi lo : HostByte) : Prop :=
  hi ≠ lo ∧ (∀ s : State, s.hostReadWord x = joinBytes (s.hostReadByte hi) (s.hostReadByte lo)) ∧
    ∀ (s : State) (v : Word),
      s.hostWriteWord x v = (s.hostWriteByte hi (hiByte v)).hostWriteByte lo (loByte v)

/-- `BC` is `B:C`, `DE` is `D:E`, `HL` is `H:L` and `PSW` is `A:F` (R22 to R25). -/
theorem isViewOf_of_mem {x : HostWord × HostByte × HostByte}
    (hx : x ∈ [(HostWord.bc, HostByte.b, HostByte.c), (.de, .d, .e), (.hl, .h, .l), (.psw, .a, .f)]) :
    IsViewOf x.1 x.2.1 x.2.2 := by
  simp only [List.mem_cons, List.not_mem_nil, or_false] at hx
  rcases hx with rfl | rfl | rfl | rfl <;> exact ⟨by decide, fun _ => rfl, fun _ _ => rfl⟩

/-- Settles O9: what a pair reads and writes are its halves (`isViewOf_of_mem`); the rest follows from
what a byte accessor reads after a write to the same and to another byte. -/
theorem pairsAliasTheirHalves : Obligations.PairsAliasTheirHalves := by
  refine ⟨fun x hx s v b => ?_, fun s v => ⟨rfl, rfl, rfl, rfl, rfl, rfl⟩⟩
  obtain ⟨hne, hread, hwrite⟩ := isViewOf_of_mem hx
  refine ⟨?_, ?_, ?_, hwrite s v, ?_, ?_, fun y =>
    ⟨s.hostReadByte_hostWriteByte_other b, s.hostReadByte_hostWriteByte_other b⟩⟩
  · rw [hread, toNat_joinBytes]
  · rw [hwrite, State.hostReadByte_hostWriteByte_other _ _ hne, State.hostReadByte_hostWriteByte_same]
  · rw [hwrite, State.hostReadByte_hostWriteByte_same]
  · rw [hread, State.hostReadByte_hostWriteByte_same,
      State.hostReadByte_hostWriteByte_other _ _ hne.symm]
  · rw [hread, State.hostReadByte_hostWriteByte_same, State.hostReadByte_hostWriteByte_other _ _ hne]

/-- Settles O10: the places by `Flags.getBit_eq`, set and get by `Flags.getBit_setBit`. -/
theorem flagBitsHaveFixedPlaces : Obligations.FlagBitsHaveFixedPlaces :=
  fun s i j b => ⟨s.flags.getBit_eq 0, s.flags.getBit_eq 2, s.flags.getBit_eq 4, s.flags.getBit_eq 6,
    s.flags.getBit_eq 7, rfl, s.flags.getBit_setBit i j b, rfl⟩

/-! ## Who writes `SP` and `PC` (10_state.md R37, R39) -/

theorem exec_keepsSp {i : Instr} {s t : State} (hi : i.mayWriteSp = false) (h : exec i s = .next t) :
    t.sp = s.sp := by
  cases i
  case jnz a | jz a | jnc a | jc a | jpo a | jpe a | jp a | jm a =>
    cases h; exact State.jumpWhen_sp s _ a
  all_goals first
    | exact Bool.noConfusion hi  -- an instruction of the list
    | (cases h; rfl)

theorem exec_keepsPc {i : Instr} {s t : State} (hi : i.transfersControl = false)
    (h : exec i s = .next t) : t.pc = s.pc := by
  cases i
  all_goals first
    | exact Bool.noConfusion hi  -- an instruction of the list
    | (cases h; rfl)

/-- Settles O26: an instruction is of the list, or its meaning leaves the pointer alone. -/
theorem onlyListedInstructionsWritePointers : Obligations.OnlyListedInstructionsWritePointers :=
  fun _ _ _ h => ⟨fun hi => exec_keepsSp hi h, fun hi => exec_keepsPc hi h⟩

/-! ## The flag table (10_state.md R34)

What each operation of a row does to the flags; `ResultFlags` comes from `SZP` (40_alu_microops.md
R132). -/

section
variable (s : State) (v : Byte)

theorem increment8_flags (o : Operand8) :
    (s.increment8 o).flags.cy = s.flags.cy ∧ KeepsReservedFlags s (s.increment8 o) ∧
      ∃ r, ResultFlags r (s.increment8 o) :=
  ⟨rfl, ⟨rfl, rfl, rfl⟩, _, resultFlags_of_szp rfl⟩

theorem decrement8_flags (o : Operand8) :
    (s.decrement8 o).flags.cy = s.flags.cy ∧ KeepsReservedFlags s (s.decrement8 o) ∧
      ∃ r, ResultFlags r (s.decrement8 o) :=
  ⟨rfl, ⟨rfl, rfl, rfl⟩, _, resultFlags_of_szp rfl⟩

theorem accAdd_flags (cin : Bool) :
    KeepsReservedFlags s (s.accAdd v cin) ∧ ∃ r, ResultFlags r (s.accAdd v cin) :=
  ⟨⟨rfl, rfl, rfl⟩, _, resultFlags_of_szp rfl⟩

theorem accSub_flags (bin : Bool) :
    KeepsReservedFlags s (s.accSub v bin) ∧ ∃ r, ResultFlags r (s.accSub v bin) :=
  ⟨⟨rfl, rfl, rfl⟩, _, resultFlags_of_szp rfl⟩

theorem accCompare_flags :
    KeepsReservedFlags s (s.accCompare v) ∧ ∃ r, ResultFlags r (s.accCompare v) :=
  ⟨⟨rfl, rfl, rfl⟩, _, resultFlags_of_szp rfl⟩

/-- `ANA`, `XRA` and `ORA` are `accLogic` of their result. -/
theorem accLogic_flags :
    (s.accLogic v).flags.cy = false ∧ KeepsReservedFlags s (s.accLogic v) ∧
      ResultFlags (s.accLogic v).regs.a (s.accLogic v) :=
  ⟨rfl, ⟨rfl, rfl, rfl⟩, resultFlags_of_szp rfl⟩

theorem addPairToHl_flags (p : Rp) : KeepsFlagsButCarry s (s.addPairToHl p) :=
  ⟨rfl, rfl, rfl, rfl, rfl, rfl, rfl⟩

/-- The low step of `DAA8` sets `AC` or keeps it (40_alu_microops.md R146). -/
theorem daaLow_ac (a : Byte) (f : Flags) : (daaLow a f).2.ac = true ∨ (daaLow a f).2.ac = f.ac := by
  unfold daaLow
  split
  · exact .inl rfl
  · exact .inr rfl

/-- The high step of `DAA8` sets `CY` or keeps it (40_alu_microops.md R146). -/
theorem daaHigh_cy (a : Byte) (f : Flags) :
    (daaHigh a f).2.cy = true ∨ (daaHigh a f).2.cy = f.cy := by
  unfold daaHigh
  split
  · exact .inl rfl
  · exact .inr rfl

theorem decimalAdjustA_flags :
    KeepsReservedFlags s s.decimalAdjustA ∧ ResultFlags s.decimalAdjustA.regs.a s.decimalAdjustA ∧
      (s.decimalAdjustA.flags.ac = true ∨ s.decimalAdjustA.flags.ac = s.flags.ac) ∧
      (s.decimalAdjustA.flags.cy = true ∨ s.decimalAdjustA.flags.cy = s.flags.cy) := by
  have hflags : s.decimalAdjustA.flags = (daa8 s.regs.a s.flags).2 := rfl
  refine ⟨daa8_reserved s.regs.a s.flags, resultFlags_of_szp rfl, ?_, ?_⟩ <;> rw [hflags, daa8_eq]
  · simpa using daaLow_ac s.regs.a s.flags
  · simpa using daaHigh_cy (daaLow s.regs.a s.flags).1 (daaLow s.regs.a s.flags).2

theorem popPsw_flags :
    (s.popPair .psw).flags.toByte = (s.readByte s.sp &&& 0xD7#8) ||| 0x02#8 := by
  have hflags : (s.popPair .psw).flags = Flags.ofPopped (loByte (s.readWord s.sp)) := rfl
  rw [hflags, State.readWord, loByte_joinBytes, Flags.ofPopped, Flags.toByte_ofByte]

end

/-- Settles O24: each instruction by the operation that is its meaning. -/
theorem flagTable : Obligations.FlagTable := by
  intro i s t h
  cases i <;> cases h
  case popPSW => exact popPsw_flags s
  case daa => exact decimalAdjustA_flags s
  case stc | cmc => exact ⟨⟨rfl, rfl, rfl, rfl, rfl, rfl, rfl⟩, rfl⟩
  case rlc | ral => exact ⟨⟨rfl, rfl, rfl, rfl, rfl, rfl, rfl⟩, .inr rfl⟩
  case rrc | rar => exact ⟨⟨rfl, rfl, rfl, rfl, rfl, rfl, rfl⟩, .inl rfl⟩
  case dadB | dadD | dadH | dadSP => exact addPairToHl_flags s _
  case jnz a | jz a | jnc a | jc a | jpo a | jpe a | jp a | jm a =>
    exact State.jumpWhen_flags s _ a
  case cnz a | cz a | cnc a | cc a | cpo a | cpe a | cp a | cm a =>
    exact State.callWhen_flags s _ a
  case rnz | rz | rnc | rc | rpo | rpe | rp | rm => exact State.retWhen_flags s _
  case inrB | inrC | inrD | inrE | inrH | inrL | inrM | inrA => exact increment8_flags s _
  case dcrB | dcrC | dcrD | dcrE | dcrH | dcrL | dcrM | dcrA => exact decrement8_flags s _
  all_goals dsimp only [Instr.flagRow]
  all_goals first  -- no flag written, or the operation on the accumulator
    | rfl
    | with_reducible exact accAdd_flags s _ _
    | with_reducible exact accSub_flags s _ _
    | with_reducible exact accCompare_flags s _
    | exact accLogic_flags s _

/-! ## Bits 1, 3 and 5 of `F` (10_state.md R33) -/

theorem Instr.flagRow_ne_fromStack {i : Instr} (hi : i ≠ .popPSW) : i.flagRow ≠ .fromStack := by
  intro hrow
  cases i
  case popPSW => exact hi rfl
  all_goals cases hrow

theorem KeepsFlagsButCarry.reserved {s t : State} (h : KeepsFlagsButCarry s t) :
    KeepsReservedFlags s t := by
  obtain ⟨-, -, -, -, hkeeps⟩ := h
  exact hkeeps

/-- Every row of the flag table but that of `POP PSW` keeps the three bits. -/
theorem exec_keepsReservedFlags {i : Instr} {s t : State} (hi : i ≠ .popPSW)
    (h : exec i s = .next t) : KeepsReservedFlags s t := by
  have hrow := flagTable i s t h
  have hne := Instr.flagRow_ne_fromStack hi
  cases hr : i.flagRow <;> simp only [hr] at hrow
  case fromStack => exact absurd hr hne
  case none => rw [KeepsReservedFlags, hrow]; exact ⟨rfl, rfl, rfl⟩
  case incDec8 | logical =>
    obtain ⟨-, hkeeps, -⟩ := hrow
    exact hkeeps
  case arithmetic | daa => exact hrow.1
  case dad => exact hrow.reserved
  case rotate | stc | cmc => exact hrow.1.reserved

/-- `f` with bits 1, 3 and 5 of `r`: the flags of `State.withReservedFlags`. -/
def Flags.withReserved (f r : Flags) : Flags := { f with b1 := r.b1, b3 := r.b3, b5 := r.b5 }

@[simp] theorem State.withReservedFlags_flags (s : State) (r : Flags) :
    (s.withReservedFlags r).flags = s.flags.withReserved r := rfl

/-- No condition reads the three bits (46_control_transfer.md R250). -/
theorem Flags.cond_withReserved (f r : Flags) (cond : Cond) :
    (f.withReserved r).cond cond = f.cond cond := by
  cases cond <;> rfl

section
variable (a : Byte) (f r : Flags)

theorem daaLow_withReserved :
    daaLow a (f.withReserved r) = ((daaLow a f).1, (daaLow a f).2.withReserved r) := by
  by_cases h : a.toNat % 16 > 9 ∨ f.ac = true
  · rw [daaLow_add (f := f.withReserved r) h, daaLow_add h]; rfl
  · rw [daaLow_keep (f := f.withReserved r) h, daaLow_keep h]

theorem daaHigh_withReserved :
    daaHigh a (f.withReserved r) = ((daaHigh a f).1, (daaHigh a f).2.withReserved r) := by
  by_cases h : a.toNat / 16 > 9 ∨ f.cy = true
  · rw [daaHigh_add (f := f.withReserved r) h, daaHigh_add h]; rfl
  · rw [daaHigh_keep (f := f.withReserved r) h, daaHigh_keep h]

theorem daa8_withReserved :
    daa8 a (f.withReserved r) = ((daa8 a f).1, (daa8 a f).2.withReserved r) := by
  rw [daa8_eq, daaLow_withReserved, daaHigh_withReserved]
  rfl

end

section
variable (s : State) (r : Flags)

theorem jumpWhen_withReservedFlags (cond : Cond) (a : Word) :
    (s.withReservedFlags r).jumpWhen cond a = (s.jumpWhen cond a).withReservedFlags r := by
  unfold State.jumpWhen
  rw [State.withReservedFlags_flags, Flags.cond_withReserved]
  split <;> rfl

theorem callWhen_withReservedFlags (cond : Cond) (a : Word) :
    (s.withReservedFlags r).callWhen cond a = (s.callWhen cond a).withReservedFlags r := by
  unfold State.callWhen
  rw [State.withReservedFlags_flags, Flags.cond_withReserved]
  split <;> rfl

theorem retWhen_withReservedFlags (cond : Cond) :
    (s.withReservedFlags r).retWhen cond = (s.retWhen cond).withReservedFlags r := by
  unfold State.retWhen
  rw [State.withReservedFlags_flags, Flags.cond_withReserved]
  split <;> rfl

/-- `DAA` reads `AC` and `CY` and carries the three bits along. -/
theorem decimalAdjustA_withReservedFlags :
    (s.withReservedFlags r).decimalAdjustA = s.decimalAdjustA.withReservedFlags r :=
  congrArg (s.setAccumulator) (daa8_withReserved s.regs.a s.flags r)

end

/-- Two runs of an instruction that differ in the three bits alone: but for `PUSH PSW` and `POP PSW`
they end in states that differ in the three bits alone. -/
theorem exec_withReservedFlags {i : Instr} (hpush : i ≠ .pushPSW) (hpop : i ≠ .popPSW) (s : State)
    (r : Flags) :
    ∃ t, exec i s = .next t ∧ exec i (s.withReservedFlags r) = .next (t.withReservedFlags r) := by
  cases i
  case pushPSW => exact absurd rfl hpush
  case popPSW => exact absurd rfl hpop
  case daa => exact ⟨_, rfl, congrArg _ (decimalAdjustA_withReservedFlags s r)⟩
  case jnz a | jz a | jnc a | jc a | jpo a | jpe a | jp a | jm a =>
    exact ⟨_, rfl, congrArg _ (jumpWhen_withReservedFlags s r _ a)⟩
  case cnz a | cz a | cnc a | cc a | cpo a | cpe a | cp a | cm a =>
    exact ⟨_, rfl, congrArg _ (callWhen_withReservedFlags s r _ a)⟩
  case rnz | rz | rnc | rc | rpo | rpe | rp | rm =>
    exact ⟨_, rfl, congrArg _ (retWhen_withReservedFlags s r _)⟩
  all_goals exact ⟨_, rfl, rfl⟩

/-- Settles O23: reset and `POP PSW` force the bits, the flag table keeps them, and no other meaning
reads them (`exec_withReservedFlags`). -/
theorem reservedFlagBits : Obligations.ReservedFlagBits :=
  ⟨fun _ => rfl,
    fun s => ⟨s.popPair .psw, rfl, Flags.ofPopped_reserved _⟩,
    fun _ _ _ h hi => exec_keepsReservedFlags hi h,
    fun s v i b => ⟨Flags.toByte_ofByte v, (s.flags.getBit_setBit i i b).trans (if_pos rfl)⟩,
    fun s => ⟨s.pushPair .psw, rfl, (push16_bytes s s.psw).1.trans (loByte_joinBytes _ _)⟩,
    fun _ _ => rfl,
    fun _ s r hpush hpop => exec_withReservedFlags hpush hpop s r⟩

end Sys2Proof.Machine
end

section
/-! PROOFS. Memory and ports, family 20_memory.md: byte and word accesses, the canonical form, which
instruction reaches memory and the ports, and a store that the next fetch sees. -/

namespace Sys2Proof

/-! ## The next address and the halves of a word, as numbers (20_memory.md R64 to R66) -/

theorem ofNat_succ_eq_add_one (a : Word) : BitVec.ofNat 16 ((a.toNat + 1) % 65536) = a + 1 := by
  bv_omega

theorem loByte_eq_ofNat_mod (v : Word) : loByte v = BitVec.ofNat 8 (v.toNat % 256) := by
  apply BitVec.eq_of_toNat_eq
  simp [loByte, BitVec.extractLsb'_toNat]

theorem hiByte_eq_ofNat_div (v : Word) : hiByte v = BitVec.ofNat 8 (v.toNat / 256) := by
  apply BitVec.eq_of_toNat_eq
  simp [hiByte, BitVec.extractLsb'_toNat, Nat.shiftRight_eq_div_pow]

end Sys2Proof

namespace Sys2Proof.Machine

/-! ## Byte and word accesses (20_memory.md R62 to R66) -/

/-- Settles O6: read after write at the same and at another address; the write is an update of the
field `mem`. -/
theorem byteReadAfterWrite : Obligations.ByteReadAfterWrite :=
  fun s a _ v => ⟨s.readByte_writeByte_same a v, s.readByte_writeByte_other v, rfl⟩

/-- Settles O7: the model's word accesses at `a` and `a + 1`, with addresses and halves as numbers. -/
theorem wordAccessIsLittleEndian : Obligations.WordAccessIsLittleEndian := by
  intro s a b v
  rw [ofNat_succ_eq_add_one, ← loByte_eq_ofNat_mod, ← hiByte_eq_ofNat_div]
  exact ⟨toNat_joinBytes _ _, rfl, s.readWord_writeWord a v, s.readByte_writeWord_other v,
    s.readByte_writeWord_high 0xFFFF v⟩

/-! ## The canonical form (20_memory.md R60, R72) -/

/-- An address that does not read as an unlisted one has a cell. -/
theorem Memory.exists_mem_of_lookup_ne {m : Memory} {n : Nat}
    (h : Memory.lookup m n ≠ Memory.unlisted) : ∃ c ∈ m, c.1 = n := by
  induction m with
  | nil => exact absurd rfl h
  | cons c m ih =>
    obtain ⟨k, v⟩ := c
    rw [Memory.lookup_cons] at h
    split at h
    · exact ⟨(k, v), List.mem_cons_self, Eq.symm ‹n = k›⟩
    · obtain ⟨c, hc, hn⟩ := ih h
      exact ⟨c, List.mem_cons_of_mem _ hc, hn⟩

/-- Below the addresses of all its cells a memory reads as unlisted. -/
theorem Memory.lookup_of_below {m : Memory} {n : Nat} (h : ∀ c ∈ m, n < c.1) :
    Memory.lookup m n = Memory.unlisted := by
  by_contra hne
  obtain ⟨c, hc, rfl⟩ := Memory.exists_mem_of_lookup_ne hne
  exact lt_irrefl _ (h c hc)

/-- The first address of a canonical memory is not above that of another which reads the same there. -/
theorem Memory.head_le {k j : Nat} {v w : Byte} {m n : Memory} (hm : Memory.wf ((k, v) :: m))
    (hn : Memory.wf ((j, w) :: n))
    (h : Memory.lookup ((k, v) :: m) j = Memory.lookup ((j, w) :: n) j) : k ≤ j := by
  obtain ⟨hlt, -⟩ := Memory.wf_cons.1 hm
  obtain ⟨-, -, hw, -⟩ := Memory.wf_cons.1 hn
  by_contra hjk
  have hbelow : ∀ c ∈ (k, v) :: m, j < c.1 :=
    List.forall_mem_cons.2 ⟨Nat.lt_of_not_le hjk, fun c hc => (Nat.lt_of_not_le hjk).trans (hlt c hc)⟩
  rw [Memory.lookup_of_below hbelow, Memory.lookup_cons, if_pos rfl] at h
  exact hw h.symm

/-- Settles O8, by induction on both lists: the first cells agree in address (`Memory.head_le` both
ways) and so in byte, and the tails read the same. -/
theorem canonicalMemoriesAreEqual : Obligations.CanonicalMemoriesAreEqual := by
  intro m n hm hn h
  induction m generalizing n with
  | nil =>
    cases n with
    | nil => rfl
    | cons d n =>
      obtain ⟨j, w⟩ := d
      obtain ⟨-, hj, hw, -⟩ := Memory.wf_cons.1 hn
      exact absurd (by simpa [Memory.lookup_cons] using (h j hj).symm) hw
  | cons c m ih =>
    obtain ⟨k, v⟩ := c
    obtain ⟨hltm, hk, hv, hm'⟩ := Memory.wf_cons.1 hm
    cases n with
    | nil => exact absurd (by simpa [Memory.lookup_cons] using h k hk) hv
    | cons d n =>
      obtain ⟨j, w⟩ := d
      obtain ⟨hltn, hj, -, hn'⟩ := Memory.wf_cons.1 hn
      obtain rfl : k = j := Nat.le_antisymm (Memory.head_le hm hn (h j hj))
        (Memory.head_le hn hm (h k hk).symm)
      obtain rfl : v = w := by simpa [Memory.lookup_cons] using h k hk
      have htail : ∀ a, a < 65536 → Memory.lookup m a = Memory.lookup n a := by
        intro a ha
        by_cases hak : a = k
        · rw [hak, Memory.lookup_of_below hltm, Memory.lookup_of_below hltn]
        · simpa [Memory.lookup_cons, hak] using h a ha
      rw [ih n hm' hn' htail]

/-! ## Who reaches memory and the ports (20_memory.md R70, R75) -/

section
variable (s : State) (cond : Cond) (a : Word)

@[simp] theorem State.jumpWhen_portEvents : (s.jumpWhen cond a).portEvents = s.portEvents := by
  unfold State.jumpWhen; split <;> rfl

@[simp] theorem State.callWhen_portEvents : (s.callWhen cond a).portEvents = s.portEvents := by
  unfold State.callWhen; split <;> rfl

@[simp] theorem State.retWhen_portEvents : (s.retWhen cond).portEvents = s.portEvents := by
  unfold State.retWhen; split <;> rfl

end

theorem exec_keepsMem {i : Instr} {s t : State} (hi : i.storesToMemory = false)
    (h : exec i s = .next t) : t.mem = s.mem := by
  cases i
  case jnz a | jz a | jnc a | jc a | jpo a | jpe a | jp a | jm a =>
    cases h; exact State.jumpWhen_mem s _ a
  case rnz | rz | rnc | rc | rpo | rpe | rp | rm => cases h; exact State.retWhen_mem s _
  all_goals first
    | exact Bool.noConfusion hi  -- an instruction of the list
    | (cases h; rfl)

theorem exec_keepsPortEvents {i : Instr} {s t : State} (hin : ∀ p, i ≠ .inp p)
    (hout : ∀ p, i ≠ .outp p) (h : exec i s = .next t) : t.portEvents = s.portEvents := by
  cases i <;> cases h
  case inp p => exact absurd rfl (hin p)
  case outp p => exact absurd rfl (hout p)
  case jnz a | jz a | jnc a | jc a | jpo a | jpe a | jp a | jm a =>
    exact State.jumpWhen_portEvents s _ a
  case cnz a | cz a | cnc a | cc a | cpo a | cpe a | cp a | cm a =>
    exact State.callWhen_portEvents s _ a
  case rnz | rz | rnc | rc | rpo | rpe | rp | rm => exact State.retWhen_portEvents s _
  all_goals rfl

/-- Settles O27: an instruction is of the list, or its meaning leaves memory alone; it is `IN` or `OUT`,
or its meaning records no port event. -/
theorem onlyListedInstructionsReachMemoryOrPorts :
    Obligations.OnlyListedInstructionsReachMemoryOrPorts :=
  fun _ _ _ h => ⟨fun hi => exec_keepsMem hi h, fun hin hout => exec_keepsPortEvents hin hout h⟩

/-! ## A store that the next fetch sees (20_memory.md R82; 70_reset_and_hazards.md R368) -/

/-- A step that fetches runs the instruction that the bytes at `PC` decode to, with `PC` moved past it
(30_encoding.md R91 to R93, R111). -/
theorem step_of_decode {s : State} {i : Instr} {rest : List Byte} (hp : s.intPending = false)
    (hh : s.halted = false)
    (h : decode [s.readByte s.pc, s.readByte (s.pc + 1), s.readByte (s.pc + 2)] = .ok i rest) :
    step s = exec i { s with pc := s.pc + BitVec.ofNat 16 i.length } := by
  have htwo : s.pc + 2 = s.pc + 1 + 1 := by bv_omega
  have hlen : s.pc + 1 + BitVec.ofNat 16 (i.length - 1) = s.pc + BitVec.ofNat 16 i.length := by
    simp only [Instr.length, encode, List.length_cons, Nat.add_sub_cancel]
    bv_omega
  rw [htwo] at h
  rw [step_of_running hp hh, execute_of_decode (s := { s with pc := s.pc + 1 }) h, hlen]

/-- The step at `MOV M,r`, opcode 0x70 + r (30_encoding.md R102; 41_data_transfer.md R163). -/
theorem step_movToM {s : State} {r : Reg8} (hp : s.intPending = false) (hh : s.halted = false)
    (hop : s.readByte s.pc = BitVec.ofNat 8 (0x70 + r.code.toNat)) :
    step s = .next (({ s with pc := s.pc + 1 } : State).writeByte s.hl (s.reg r)) := by
  rw [step_of_running hp hh, hop]
  cases r <;> rfl

/-- Settles O60: the first step moves `PC` past `MOV M,r` and writes the byte that `PC` then points to;
the second decodes what it reads there (`step_of_decode`). -/
theorem storeIsSeenByNextFetch : Obligations.StoreIsSeenByNextFetch := by
  intro s r hp hh hop hhl
  obtain ⟨t, hstep, hpc, hbyte, hp', hh'⟩ : ∃ t, step s = .next t ∧ t.pc = s.pc + 1 ∧
      t.readByte t.pc = s.reg r ∧ t.intPending = false ∧ t.halted = false := by
    refine ⟨_, step_movToM hp hh hop, rfl, ?_, hp, hh⟩
    rw [hhl]
    exact State.readByte_writeByte_same _ _ _
  refine ⟨t, hstep, hpc, hbyte, fun i rest hdecode => ?_⟩
  rw [← hbyte] at hdecode
  exact step_of_decode hp' hh' hdecode

end Sys2Proof.Machine
end

section
/-! PROOFS. Encoding, family 30_encoding.md: decoder and encoder invert each other, the opcode byte fixes
the length, and interrupt service executes the vector byte. -/

namespace Sys2Proof

/-! ## What the opcode map's form of a byte says about decoder and encoder (30_encoding.md R90 to R93) -/

section
variable {op : Byte}

theorem decode_of_alone {i : Instr} (h : opcodeForm op = .alone i) (rest : List Byte) :
    decode (op :: rest) = .ok i rest := by
  simp [decode, h]

theorem decode_of_withByte {k : Byte → Instr} (h : opcodeForm op = .withByte k) (d : Byte)
    (rest : List Byte) : decode (op :: d :: rest) = .ok (k d) rest := by
  simp [decode, h]

theorem decode_of_withWord {k : Word → Instr} (h : opcodeForm op = .withWord k) (lo hi : Byte)
    (rest : List Byte) : decode (op :: lo :: hi :: rest) = .ok (k (joinBytes hi lo)) rest := by
  simp [decode, h]

theorem encode_of_alone {i : Instr} (h : opcodeForm op = .alone i) : encode i = [op] := by
  obtain ⟨hop, hbytes⟩ : (OpcodeForm.alone i).Encodes op := h ▸ opcodeForm_encodes op
  rw [encode, hop, hbytes]

theorem encode_of_withByte {k : Byte → Instr} (h : opcodeForm op = .withByte k) (d : Byte) :
    encode (k d) = [op, d] := by
  have hform : (OpcodeForm.withByte k).Encodes op := h ▸ opcodeForm_encodes op
  obtain ⟨hop, hbytes⟩ := hform d
  rw [encode, hop, hbytes]

theorem encode_of_withWord {k : Word → Instr} (h : opcodeForm op = .withWord k) (lo hi : Byte) :
    encode (k (joinBytes hi lo)) = [op, lo, hi] := by
  have hform : (OpcodeForm.withWord k).Encodes op := h ▸ opcodeForm_encodes op
  obtain ⟨hop, hbytes⟩ := hform (joinBytes hi lo)
  rw [encode, hop, hbytes, wordBytes, loByte_joinBytes, hiByte_joinBytes]

end

/-! ## Decoding what was encoded (30_encoding.md R90 to R105) -/

/-- Every instruction stands in the opcode map at its own opcode byte. The cases are the three formats:
an instruction with a 16-bit operand is F3, one with an 8-bit operand F2, every other F1. -/
theorem encodedForm (i : Instr) : Laws.EncodedForm.Statement i := by
  cases i
  case lxiB w | lxiD w | lxiH w | lxiSP w | shld w | lhld w | sta w | lda w | jmp w | jmpCB w |
      jnz w | jz w | jnc w | jc w | jpo w | jpe w | jp w | jm w | call w | callDD w | callED w |
      callFD w | cnz w | cz w | cnc w | cc w | cpo w | cpe w | cp w | cm w =>
    exact .inr (.inr ⟨_, w, by rw [Instr.opcode]; rfl, rfl, rfl⟩)
  case mviB d | mviC d | mviD d | mviE d | mviH d | mviL d | mviM d | mviA d | adi d | aci d | sui d |
      sbi d | ani d | xri d | ori d | cpi d | outp d | inp d =>
    exact .inr (.inl ⟨_, d, by rw [Instr.opcode]; rfl, rfl, rfl⟩)
  all_goals exact .inl ⟨rfl, rfl⟩

theorem decodes_encode (i : Instr) : Decodes (encode i) i := by
  intro rest
  rcases encodedForm i with ⟨hf, hb⟩ | ⟨k, d, hf, hi, hb⟩ | ⟨k, w, hf, hi, hb⟩ <;> rw [encode, hb]
  · exact decode_of_alone hf rest
  · rw [hi] at hf ⊢
    exact decode_of_withByte hf d rest
  · have hdecode := decode_of_withWord hf (loByte w) (hiByte w) rest
    rwa [joinBytes_hiByte_loByte, ← hi] at hdecode

/-- Settles O1. Being well formed is not needed: the opcode map gives every instruction its row
(`encodedForm`), `JMP` 0xCB too. -/
theorem decodeInvertsEncode : Obligations.DecodeInvertsEncode :=
  fun i rest _ => decodes_encode i rest

/-! ## Encoding what was decoded (30_encoding.md R91, R105) -/

/-- Settles O2, by the three ways in which decoding succeeds. -/
theorem encodeInvertsDecode : Obligations.EncodeInvertsDecode := by
  intro bytes i rest h
  rcases decode_ok h with ⟨op, hf, rfl⟩ | ⟨op, k, d, hf, rfl, rfl⟩ | ⟨op, k, lo, hi, hf, rfl, rfl⟩
  · rw [encode_of_alone hf, List.singleton_append]
  · rw [encode_of_withByte hf, List.cons_append, List.singleton_append]
  · rw [encode_of_withWord hf, List.cons_append, List.cons_append, List.singleton_append]

theorem opcode_of_decode {op : Byte} {bytes rest : List Byte} {i : Instr}
    (h : decode (op :: bytes) = .ok i rest) : i.opcode = op :=
  (List.cons.inj (encodeInvertsDecode _ _ _ h)).1

theorem rest_of_decode {bytes rest : List Byte} {i : Instr} (h : decode bytes = .ok i rest) :
    rest = bytes.drop i.length := by
  rw [← encodeInvertsDecode _ _ _ h, Instr.length, List.drop_left]

/-! ## Every opcode byte, and its length (30_encoding.md R91, R110, R111) -/

/-- Three bytes are enough for every opcode byte (30_encoding.md R90, R91). -/
theorem exists_decode_three_bytes (op lo hi : Byte) : ∃ i rest, decode [op, lo, hi] = .ok i rest := by
  cases h : opcodeForm op with
  | alone i => exact ⟨_, _, decode_of_alone h _⟩
  | withByte k => exact ⟨_, _, decode_of_withByte h _ _⟩
  | withWord k => exact ⟨_, _, decode_of_withWord h _ _ _⟩

/-- Under `CB_BEHAVIOUR = jmp` every instruction is well formed (00_scope.md R7; log entry 8). -/
theorem Instr.wellFormed_eq_true (i : Instr) : i.wellFormed = true := by
  unfold Instr.wellFormed Instr.wellFormedUnder
  split <;> rfl

/-- Settles O3. -/
theorem everyOpcodeByteDecodes : Obligations.EveryOpcodeByteDecodes := by
  intro op lo hi
  obtain ⟨i, rest, h⟩ := exists_decode_three_bytes op lo hi
  exact ⟨i, rest_of_decode h ▸ h, opcode_of_decode h, i.wellFormed_eq_true⟩

/-- The opcode byte alone fixes the length (30_encoding.md R111). -/
theorem Instr.length_eq_opcodeForm_length (i : Instr) : i.length = (opcodeForm i.opcode).length := by
  rcases encodedForm i with ⟨hf, hb⟩ | ⟨k, d, hf, -, hb⟩ | ⟨k, w, hf, -, hb⟩ <;>
    rw [Instr.length, encode, hf, hb] <;> rfl

theorem length_of_decode {op : Byte} {bytes rest : List Byte} {i : Instr}
    (h : decode (op :: bytes) = .ok i rest) : i.length = (opcodeForm op).length := by
  rw [i.length_eq_opcodeForm_length, opcode_of_decode h]

end Sys2Proof

namespace Sys2Proof.Machine

/-- Executing an opcode byte first moves `PC` past the operand bytes that its form in the opcode map has
(30_encoding.md R92, R111). -/
theorem execute_moves_pc (op : Byte) (s : State) : ∃ i : Instr, i.opcode = op ∧
    execute op s =
      exec i { s with pc := s.pc + BitVec.ofNat 16 ((opcodeForm op).length - 1) } := by
  obtain ⟨i, rest, h⟩ := exists_decode_three_bytes op (s.readByte s.pc) (s.readByte (s.pc + 1))
  exact ⟨i, opcode_of_decode h, length_of_decode h ▸ execute_of_decode h⟩

/-- Settles O4: the spec's lists give the lengths of the opcode map's forms, byte by byte, and decoding
and execution both go by the form. -/
theorem lengthFollowsOpcode : Obligations.LengthFollowsOpcode := by
  refine ⟨rfl, rfl, fun op => ?_⟩
  intro length
  have hlength : (opcodeForm op).length = length := by revert op; decide
  rw [← hlength]
  exact ⟨fun bytes rest i h => ⟨length_of_decode h, length_of_decode h ▸ rest_of_decode h⟩,
    execute_moves_pc op⟩

/-- Settles O5. -/
theorem writtenOutWordsDecode : Obligations.WrittenOutWordsDecode := by
  unfold Obligations.WrittenOutWordsDecode
  decide

/-! ## Interrupt service (30_encoding.md R116; 60_exceptions.md R326, R327) -/

/-- Settles O15: service executes the vector byte after `beginService`, which changes no byte of memory
and leaves `PC` alone, and that execution has a next state. -/
theorem stepServicesPendingInterrupt : Obligations.StepServicesPendingInterrupt := by
  intro s i rest hpending hdecode
  obtain ⟨t, ht⟩ :=
    exec_completes i { s with inte := false, pc := s.pc + BitVec.ofNat 16 (i.length - 1) }
  have hexecute : execute s.intVector s.beginService = .next t :=
    (execute_of_decode (s := s.beginService) hdecode).trans ht
  exact ⟨t, ht, (step_of_pending hpending).trans (serviceInterrupt_of_next hexecute)⟩

end Sys2Proof.Machine
end

section
/-! PROOFS. Data transfer, family 41_data_transfer.md: each instruction is one write of a register, a
pair, a byte or a word (`XCHG` and `XTHL` two), and the law of the write gives effect and frame. -/

namespace Sys2Proof

/-! ## What the opcode map's form of a byte decodes to (30_encoding.md R90 to R93) -/

section
variable {op : Byte}

theorem decodes_of_alone {i : Instr} (h : opcodeForm op = .alone i) : Decodes [op] i :=
  decode_of_alone h

theorem decodes_of_withByte {k : Byte → Instr} (h : opcodeForm op = .withByte k) (d : Byte) :
    Decodes [op, d] (k d) :=
  decode_of_withByte h d

theorem decodes_of_withWord {k : Word → Instr} (h : opcodeForm op = .withWord k) (lo hi : Byte) :
    Decodes [op, lo, hi] (k (joinBytes hi lo)) :=
  decode_of_withWord h lo hi

end

/-! ## Where the families stand in the opcode map (30_encoding.md R95 to R102) -/

theorem opcodeForm_mov (dst src : Reg8) :
    opcodeForm (BitVec.ofNat 8 (0x40 + 8 * dst.code.toNat + src.code.toNat)) =
      .alone (.mov dst src) := by
  cases dst <;> cases src <;> rfl

theorem opcodeForm_movFromM (r : Reg8) :
    opcodeForm (BitVec.ofNat 8 (0x46 + 8 * r.code.toNat)) = .alone (.movFromM r) := by
  cases r <;> rfl

theorem opcodeForm_movToM (r : Reg8) :
    opcodeForm (BitVec.ofNat 8 (0x70 + r.code.toNat)) = .alone (.movToM r) := by
  cases r <;> rfl

theorem opcodeForm_mvi (o : Operand8) :
    opcodeForm (BitVec.ofNat 8 (0x06 + 8 * o.code.toNat)) = .withByte (.mvi o) := by
  cases o with
  | reg r => cases r <;> rfl
  | m => rfl

theorem opcodeForm_lxi (p : Rp) :
    opcodeForm (BitVec.ofNat 8 (0x01 + 16 * p.code.toNat)) = .withWord (.lxi p) := by
  cases p <;> rfl

end Sys2Proof

namespace Sys2Proof.Machine

/-! ## Which write a family is (41_data_transfer.md R161 to R166) -/

section
variable (s : State)

theorem exec_mov (dst src : Reg8) : exec (.mov dst src) s = .next (s.setReg dst (s.reg src)) := by
  cases dst <;> cases src <;> rfl

theorem exec_movFromM (r : Reg8) : exec (.movFromM r) s = .next (s.setReg r (s.readByte s.hl)) := by
  cases r <;> rfl

theorem exec_movToM (r : Reg8) : exec (.movToM r) s = .next (s.writeByte s.hl (s.reg r)) := by
  cases r <;> rfl

theorem exec_mvi (o : Operand8) (d8 : Byte) :
    exec (.mvi o d8) s = .next (s.writeOperand8 o d8) := by
  cases o with
  | reg r => cases r <;> rfl
  | m => rfl

theorem exec_lxi (p : Rp) (d16 : Word) : exec (.lxi p d16) s = .next (s.setRp p d16) := by
  cases p <;> rfl

/-! ## The writes that these instructions need beyond those of the model's laws -/

theorem writeOperand8_keeps (o : Operand8) (v : Byte) :
    (s.writeOperand8 o v).flags = s.flags ∧ KeepsPointers s (s.writeOperand8 o v) ∧
      KeepsSystem s (s.writeOperand8 o v) := by
  cases o <;> exact ⟨rfl, ⟨rfl, rfl⟩, ⟨rfl, rfl, rfl, rfl⟩, rfl, rfl⟩

@[simp] theorem State.loByte_readWord (a : Word) : loByte (s.readWord a) = s.readByte a :=
  loByte_joinBytes _ _

@[simp] theorem State.hiByte_readWord (a : Word) : hiByte (s.readWord a) = s.readByte (a + 1) :=
  hiByte_joinBytes _ _

@[simp] theorem State.loByte_hl : loByte s.hl = s.reg .l := loByte_joinBytes _ _

@[simp] theorem State.hiByte_hl : hiByte s.hl = s.reg .h := hiByte_joinBytes _ _

@[simp] theorem State.loByte_de : loByte s.de = s.reg .e := loByte_joinBytes _ _

@[simp] theorem State.hiByte_de : hiByte s.de = s.reg .d := hiByte_joinBytes _ _

/-- `HL <- v`, by halves (10_state.md R24). -/
theorem setHl_changes (v : Word) :
    (s.setHl v).reg .l = loByte v ∧ (s.setHl v).reg .h = hiByte v ∧
      ChangesRegsOnly [.h, .l] s (s.setHl v) := by
  refine ⟨rfl, rfl, ?_, fun _ _ => rfl, rfl, ⟨rfl, rfl⟩, ⟨rfl, rfl, rfl, rfl⟩, rfl, rfl⟩
  intro r hr
  cases r <;> simp at hr <;> rfl

/-- `MemWrite(a, 2, v)`, by bytes (20_memory.md R65, R66). -/
theorem writeWord_changes (a v : Word) :
    (s.writeWord a v).readByte a = loByte v ∧ (s.writeWord a v).readByte (a + 1) = hiByte v ∧
      ChangesMemoryOnly [a, a + 1] s (s.writeWord a v) := by
  refine ⟨s.readByte_writeWord_low a v, s.readByte_writeWord_high a v, ?_,
    fun _ _ => rfl, rfl, ⟨rfl, rfl⟩, ⟨rfl, rfl, rfl, rfl⟩, rfl, rfl⟩
  intro b hb
  simp only [List.mem_cons, List.not_mem_nil, or_false, not_or] at hb
  obtain ⟨hlow, hhigh⟩ := hb
  exact s.readByte_writeWord_other v hlow hhigh

end

/-! ## Moves between registers, memory and immediates -/

/-- Settles O29: one row of the opcode map and one register write for each pair of registers. -/
theorem movCopiesRegister : Obligations.MovCopiesRegister :=
  fun dst src => ⟨decodes_of_alone (opcodeForm_mov dst src),
    fun s => ⟨_, exec_mov s dst src, setReg_changes s dst _⟩⟩

/-- Settles O30: the address is the `HL` before the write, also where the write is to `H` or `L`. -/
theorem movMovesMemory : Obligations.MovMovesMemory :=
  fun r => ⟨decodes_of_alone (opcodeForm_movFromM r), decodes_of_alone (opcodeForm_movToM r),
    fun s => ⟨_, exec_movFromM s r, setReg_changes s r _⟩,
    fun s => ⟨_, exec_movToM s r, writeByte_changes s s.hl _⟩⟩

/-- Settles O31: a write of the operand, which keeps `F`, the pointers and the rest. -/
theorem mviMovesImmediate : Obligations.MviMovesImmediate :=
  fun o d8 => ⟨decodes_of_withByte (opcodeForm_mvi o) d8,
    fun s => ⟨_, exec_mvi s o d8, writeOperand8_writes s o d8, writeOperand8_keeps s o d8⟩⟩

/-- Settles O32: one row of the opcode map and one write of a pair for each pair. -/
theorem lxiLoadsPair : Obligations.LxiLoadsPair :=
  fun p lo hi => ⟨decodes_of_withWord (opcodeForm_lxi p) lo hi,
    fun d16 s => ⟨_, exec_lxi s p d16, setRp_writes s p d16⟩⟩

/-! ## `A` and memory -/

/-- Settles O33: each is a write of `A` with the byte at its address. -/
theorem ldaAndLdaxLoadAccumulator : Obligations.LdaAndLdaxLoadAccumulator :=
  ⟨decodes_of_withWord rfl, decodes_of_alone rfl, decodes_of_alone rfl,
    fun a16 s => ⟨s.loadADirect a16, rfl, setReg_changes s .a (s.readByte a16)⟩,
    fun s => ⟨s.loadAIndirect .bc, rfl, setReg_changes s .a (s.readByte s.bc)⟩,
    fun s => ⟨s.loadAIndirect .de, rfl, setReg_changes s .a (s.readByte s.de)⟩⟩

/-- Settles O34: each is a write of the byte at its address with `A`. -/
theorem staAndStaxStoreAccumulator : Obligations.StaAndStaxStoreAccumulator :=
  ⟨decodes_of_withWord rfl, decodes_of_alone rfl, decodes_of_alone rfl,
    fun a16 s => ⟨s.storeADirect a16, rfl, writeByte_changes s a16 (s.reg .a)⟩,
    fun s => ⟨s.storeAIndirect .bc, rfl, writeByte_changes s s.bc (s.reg .a)⟩,
    fun s => ⟨s.storeAIndirect .de, rfl, writeByte_changes s s.de (s.reg .a)⟩⟩

/-! ## `HL` and a word of memory, `HL` and `DE`, `HL` and `SP` -/

theorem loadHlDirect_changes (s : State) (a16 : Word) :
    (s.loadHlDirect a16).reg .l = s.readByte a16 ∧
      (s.loadHlDirect a16).reg .h = s.readByte (a16 + 1) ∧
      ChangesRegsOnly [.h, .l] s (s.loadHlDirect a16) := by
  have h := setHl_changes s (s.readWord a16)
  rw [s.loByte_readWord, s.hiByte_readWord] at h
  exact h

theorem storeHlDirect_changes (s : State) (a16 : Word) :
    (s.storeHlDirect a16).readByte a16 = s.reg .l ∧
      (s.storeHlDirect a16).readByte (a16 + 1) = s.reg .h ∧
      ChangesMemoryOnly [a16, a16 + 1] s (s.storeHlDirect a16) := by
  have h := writeWord_changes s a16 s.hl
  rw [s.loByte_hl, s.hiByte_hl] at h
  exact h

/-- `XCHG`, by halves (R173). -/
theorem exchangeHlDe_changes (s : State) :
    s.exchangeHlDe.reg .h = s.reg .d ∧ s.exchangeHlDe.reg .l = s.reg .e ∧
      s.exchangeHlDe.reg .d = s.reg .h ∧ s.exchangeHlDe.reg .e = s.reg .l ∧
      ChangesRegsOnly [.h, .l, .d, .e] s s.exchangeHlDe := by
  refine ⟨s.hiByte_de, s.loByte_de, s.hiByte_hl, s.loByte_hl,
    ?_, fun _ _ => rfl, rfl, ⟨rfl, rfl⟩, ⟨rfl, rfl, rfl, rfl⟩, rfl, rfl⟩
  intro r hr
  cases r <;> simp at hr <;> rfl

/-- `XTHL` is, for the registers, `LHLD` from `SP` and, for memory, `SHLD` to `SP` (R174). -/
theorem exchangeHlTop_changes (s : State) :
    s.exchangeHlTop.reg .l = s.readByte s.sp ∧ s.exchangeHlTop.reg .h = s.readByte (s.sp + 1) ∧
      s.exchangeHlTop.readByte s.sp = s.reg .l ∧ s.exchangeHlTop.readByte (s.sp + 1) = s.reg .h ∧
      KeepsMemoryBut [s.sp, s.sp + 1] s s.exchangeHlTop ∧ KeepsRegsBut [.h, .l] s s.exchangeHlTop ∧
      s.exchangeHlTop.flags = s.flags ∧ KeepsPointers s s.exchangeHlTop ∧
      KeepsSystem s s.exchangeHlTop := by
  obtain ⟨hl, hh, hregs, -⟩ := loadHlDirect_changes s s.sp
  obtain ⟨hlow, hhigh, hmem, -, hflags, hpointers, hsystem⟩ := storeHlDirect_changes s s.sp
  exact ⟨hl, hh, hlow, hhigh, hmem, hregs, hflags, hpointers, hsystem⟩

/-- Settles O35: both move a word whose second byte is at `a16 + 1`, a 16-bit sum. -/
theorem lhldAndShldMoveHl : Obligations.LhldAndShldMoveHl :=
  ⟨fun lo hi => ⟨decodes_of_withWord rfl lo hi, decodes_of_withWord rfl lo hi⟩,
    fun a16 s => ⟨s.loadHlDirect a16, rfl, loadHlDirect_changes s a16⟩,
    fun a16 s => ⟨s.storeHlDirect a16, rfl, storeHlDirect_changes s a16⟩⟩

/-- Settles O36: `XCHG` reads both pairs, and `XTHL` the word at `SP`, before it writes. -/
theorem xchgXthlSphl : Obligations.XchgXthlSphl :=
  ⟨decodes_of_alone rfl, decodes_of_alone rfl, decodes_of_alone rfl,
    fun s => ⟨⟨s.exchangeHlDe, rfl, exchangeHlDe_changes s⟩,
      ⟨s.exchangeHlTop, rfl, exchangeHlTop_changes s⟩, rfl⟩⟩

end Sys2Proof.Machine
end

section
/-! PROOFS. Increment and decrement, family 42_inc_dec.md: `INR` and `DCR` replace an operand through
`INC8` and `DEC8`, `INX` and `DCX` write a pair. -/

namespace Sys2Proof

/-! ## Where the families stand in the opcode map (30_encoding.md R95 to R97, R101) -/

theorem opcodeForm_inr (o : Operand8) :
    opcodeForm (BitVec.ofNat 8 (0x04 + 8 * o.code.toNat)) = .alone (.inr o) := by
  cases o with
  | reg r => cases r <;> rfl
  | m => rfl

theorem opcodeForm_dcr (o : Operand8) :
    opcodeForm (BitVec.ofNat 8 (0x05 + 8 * o.code.toNat)) = .alone (.dcr o) := by
  cases o with
  | reg r => cases r <;> rfl
  | m => rfl

theorem opcodeForm_inx (p : Rp) :
    opcodeForm (BitVec.ofNat 8 (0x03 + 16 * p.code.toNat)) = .alone (.inx p) := by
  cases p <;> rfl

theorem opcodeForm_dcx (p : Rp) :
    opcodeForm (BitVec.ofNat 8 (0x0B + 16 * p.code.toNat)) = .alone (.dcx p) := by
  cases p <;> rfl

end Sys2Proof

namespace Sys2Proof.Machine

/-! ## The results of the micro-operations, as numbers (40_alu_microops.md R138, R139, R148) -/

theorem inc8_fst (v : Byte) (f : Flags) : (inc8 v f).1 = BitVec.ofNat 8 (v.toNat + 1) := by
  simp only [inc8]
  bv_omega

theorem dec8_fst (pol : Config.AcSub) (v : Byte) (f : Flags) :
    (dec8 pol v f).1 = BitVec.ofNat 8 (v.toNat + 255) := by
  simp only [dec8]
  bv_omega

/-- `DEC8` of the result of `INC8`, also where the byte wraps. -/
theorem dec8_inc8_fst (pol : Config.AcSub) (v : Byte) (f g : Flags) :
    (dec8 pol (inc8 v f).1 g).1 = v :=
  BitVec.add_sub_cancel v 1

theorem inc16_eq_ofNat (v : Word) : inc16 v = BitVec.ofNat 16 (v.toNat + 1) := by
  simp only [inc16]
  bv_omega

theorem dec16_eq_ofNat (v : Word) : dec16 v = BitVec.ofNat 16 (v.toNat + 65535) := by
  simp only [dec16]
  bv_omega

/-- The model's `AC` after a subtraction or a decrement is the statements', by either value of `AC_SUB`
(00_scope.md R6; 40_alu_microops.md R137, R139). -/
theorem acFromBorrow_of_acOfBorrow {borrow : Bool} {t : State}
    (h : t.flags.ac = acOfBorrow Config.acSub borrow) : AcFromBorrow borrow t := by
  constructor <;> intro hpol <;> rw [h, hpol, acOfBorrow]

/-! ## `INR` and `DCR` (42_inc_dec.md R190 to R194) -/

theorem increment8_effect (s : State) (o : Operand8) :
    WritesOperand8 o (BitVec.ofNat 8 ((s.operand8 o).toNat + 1)) s (s.increment8 o) ∧
      ResultFlags (BitVec.ofNat 8 ((s.operand8 o).toNat + 1)) (s.increment8 o) ∧
      (s.increment8 o).flags.ac = decide ((s.operand8 o).toNat % 16 = 15) ∧
      (s.increment8 o).flags.cy = s.flags.cy ∧ KeepsReservedFlags s (s.increment8 o) ∧
      KeepsPointers s (s.increment8 o) ∧ KeepsSystem s (s.increment8 o) := by
  obtain ⟨hwrites, hflags, hkeeps⟩ := mapOperand8_writes s o inc8
  obtain ⟨hcy, hreserved, -⟩ := increment8_flags s o
  rw [← inc8_fst _ s.flags]
  exact ⟨hwrites, resultFlags_of_szp hflags, rfl, hcy, hreserved, hkeeps⟩

theorem decrement8_effect (s : State) (o : Operand8) :
    WritesOperand8 o (BitVec.ofNat 8 ((s.operand8 o).toNat + 255)) s (s.decrement8 o) ∧
      ResultFlags (BitVec.ofNat 8 ((s.operand8 o).toNat + 255)) (s.decrement8 o) ∧
      AcFromBorrow (decide ((s.operand8 o).toNat % 16 = 0)) (s.decrement8 o) ∧
      (s.decrement8 o).flags.cy = s.flags.cy ∧ KeepsReservedFlags s (s.decrement8 o) ∧
      KeepsPointers s (s.decrement8 o) ∧ KeepsSystem s (s.decrement8 o) := by
  obtain ⟨hwrites, hflags, hkeeps⟩ := mapOperand8_writes s o (dec8 Config.acSub)
  obtain ⟨hcy, hreserved, -⟩ := decrement8_flags s o
  rw [← dec8_fst Config.acSub _ s.flags]
  exact ⟨hwrites, resultFlags_of_szp hflags, acFromBorrow_of_acOfBorrow rfl, hcy, hreserved, hkeeps⟩

/-- Settles O37: one row of the opcode map and one `INC8` for each operand. -/
theorem inrIncrementsOperand : Obligations.InrIncrementsOperand :=
  fun o => ⟨decodes_of_alone (opcodeForm_inr o),
    fun s => ⟨s.increment8 o, exec_inr o s, increment8_effect s o⟩⟩

/-- Settles O38: one row of the opcode map and one `DEC8` for each operand, with `AC` by `AC_SUB`. -/
theorem dcrDecrementsOperand : Obligations.DcrDecrementsOperand :=
  fun o => ⟨decodes_of_alone (opcodeForm_dcr o),
    fun s => ⟨s.decrement8 o, exec_dcr o s, decrement8_effect s o⟩⟩

/-! ## Two writes of one operand (00_scope.md R18) -/

section
variable {s t u : State}

theorem KeepsRegsBut.trans {but : List Reg8} (h : KeepsRegsBut but s t) (h' : KeepsRegsBut but t u) :
    KeepsRegsBut but s u :=
  fun r hr => (h' r hr).trans (h r hr)

theorem KeepsMemoryBut.trans {but : List Word} (h : KeepsMemoryBut but s t)
    (h' : KeepsMemoryBut but t u) : KeepsMemoryBut but s u :=
  fun a ha => (h' a ha).trans (h a ha)

theorem KeepsRegsBut.hl_eq (h : KeepsRegsBut [] s t) : t.hl = s.hl :=
  congrArg₂ joinBytes (h .h List.not_mem_nil) (h .l List.not_mem_nil)

/-- The operand written reads back; a write of `M` keeps its address. -/
theorem WritesOperand8.operand8_eq {o : Operand8} {v : Byte} (h : WritesOperand8 o v s t) :
    t.operand8 o = v := by
  cases o with
  | reg r =>
    obtain ⟨hv, -, -⟩ := h
    exact hv
  | m =>
    obtain ⟨hv, -, hregs⟩ := h
    rw [State.operand8, hregs.hl_eq, hv]

/-- The second write is of the same operand, as the first keeps the address of `M`. -/
theorem WritesOperand8.trans {o : Operand8} {v w : Byte} (h : WritesOperand8 o v s t)
    (h' : WritesOperand8 o w t u) : WritesOperand8 o w s u := by
  cases o with
  | reg r =>
    obtain ⟨-, hregs, hmem⟩ := h
    obtain ⟨hw, hregs', hmem'⟩ := h'
    exact ⟨hw, hregs.trans hregs', hmem.trans hmem'⟩
  | m =>
    obtain ⟨-, hmem, hregs⟩ := h
    obtain ⟨hw, hmem', hregs'⟩ := h'
    rw [hregs.hl_eq] at hw hmem'
    exact ⟨hw, hmem.trans hmem', hregs.trans hregs'⟩

end

/-- `DEC8` undoes `INC8` on the operand, and nothing beside the operand moves. -/
theorem decrement8_increment8_restores (s : State) (o : Operand8) :
    WritesOperand8 o (s.operand8 o) s ((s.increment8 o).decrement8 o) := by
  obtain ⟨hinr, -⟩ := mapOperand8_writes s o inc8
  obtain ⟨hdcr, -⟩ := mapOperand8_writes (s.mapOperand8 o inc8) o (dec8 Config.acSub)
  rw [hinr.operand8_eq, dec8_inc8_fst] at hdcr
  exact hinr.trans hdcr

/-- Settles O39: the operand by `decrement8_increment8_restores`, `CY` as in the flag table. -/
theorem inrThenDcrRestores : Obligations.InrThenDcrRestores := by
  intro o s
  obtain ⟨hinr, -⟩ := increment8_flags s o
  obtain ⟨hdcr, -⟩ := decrement8_flags (s.increment8 o) o
  exact ⟨_, _, exec_inr o s, exec_dcr o _, decrement8_increment8_restores s o, hinr, hdcr.trans hinr⟩

/-! ## `INX` and `DCX` (42_inc_dec.md R195, R196) -/

theorem exec_inx (p : Rp) (s : State) : exec (.inx p) s = .next (s.incrementPair p) := by
  cases p <;> rfl

theorem exec_dcx (p : Rp) (s : State) : exec (.dcx p) s = .next (s.decrementPair p) := by
  cases p <;> rfl

theorem incrementPair_writes (s : State) (p : Rp) :
    WritesPair p (BitVec.ofNat 16 ((s.rp p).toNat + 1)) s (s.incrementPair p) ∧
      (s.incrementPair p).flags = s.flags := by
  rw [← inc16_eq_ofNat]
  exact setRp_writes s p _

theorem decrementPair_writes (s : State) (p : Rp) :
    WritesPair p (BitVec.ofNat 16 ((s.rp p).toNat + 65535)) s (s.decrementPair p) ∧
      (s.decrementPair p).flags = s.flags := by
  rw [← dec16_eq_ofNat]
  exact setRp_writes s p _

/-- Settles O40: one row of the opcode map and one write of the pair for each pair and direction. -/
theorem inxAndDcxCountPair : Obligations.InxAndDcxCountPair :=
  fun p => ⟨decodes_of_alone (opcodeForm_inx p), decodes_of_alone (opcodeForm_dcx p),
    fun s => ⟨s.incrementPair p, exec_inx p s, incrementPair_writes s p⟩,
    fun s => ⟨s.decrementPair p, exec_dcx p s, decrementPair_writes s p⟩⟩

end Sys2Proof.Machine
end

section
/-! PROOFS. Arithmetic and compare, family 43_arithmetic_compare.md: the 8-bit forms are `ADD8` or `SUB8`
of `A` and the second operand, `DAD` is `ADD16` of `HL` and a pair, and `DAA` after an addition carries
its digits in tens. -/

namespace Sys2Proof.Machine

/-! ## The results of the micro-operations, as numbers (40_alu_microops.md R134 to R137) -/

/-- The headroom test is the ninth bit of the sum. -/
theorem add8_cy (a b : Byte) (cin : Bool) (f : Flags) :
    (add8 a b cin f).2.cy = decide (a.toNat + b.toNat + cin.toNat > 255) := by
  have ha := a.isLt
  simp only [add8, szp_cy, decide_eq_decide]
  omega

theorem add8_ac (a b : Byte) (cin : Bool) (f : Flags) :
    (add8 a b cin f).2.ac = decide (a.toNat % 16 + b.toNat % 16 + cin.toNat > 15) := rfl

theorem add8_toNat (a b : Byte) (cin : Bool) (f : Flags) :
    (add8 a b cin f).1.toNat = (a.toNat + b.toNat + cin.toNat) % 256 :=
  BitVec.toNat_ofNat _ _

/-- 512 is a multiple of 256 that no operand and borrow exceed. -/
theorem sub8_fst (pol : Config.AcSub) (a b : Byte) (bin : Bool) (f : Flags) :
    (sub8 pol a b bin f).1 = BitVec.ofNat 8 (a.toNat + 512 - b.toNat - bin.toNat) := by
  have hbin := Bool.toNat_le bin
  simp only [sub8]
  bv_omega

theorem sub8_fst_of_no_borrow (pol : Config.AcSub) (a b : Byte) (f : Flags) :
    (sub8 pol a b false f).1 = BitVec.ofNat 8 (a.toNat + 256 - b.toNat) := by
  rw [sub8_fst, Bool.toNat_false]
  bv_omega

theorem cmp8_z (pol : Config.AcSub) (a b : Byte) (f : Flags) :
    (cmp8 pol a b f).z = decide (a = b) := by
  simp only [cmp8, sub8, szp_z, Bool.toNat_false, decide_eq_decide]
  bv_omega

/-! ## Which operation the 8-bit forms are (R201 to R208, R210, R211) -/

section
variable (src : AccSource) (s : State)

theorem exec_addition (carry : Bool) :
    exec (src.instr (if carry then .adc else .add)) s =
      .next (s.accAdd (src.value s) (carry && s.flags.cy)) := by
  cases carry
  · exact exec_accumulator src .add s
  · exact exec_accumulator src .adc s

theorem exec_subtraction (borrow : Bool) :
    exec (src.instr (if borrow then .sbb else .sub)) s =
      .next (s.accSub (src.value s) (borrow && s.flags.cy)) := by
  cases borrow
  · exact exec_accumulator src .sub s
  · exact exec_accumulator src .sbb s

end

/-! ## Their effect and frame -/

section
variable (s : State) (v : Byte)

theorem accAdd_effect (cin : Bool) :
    (s.accAdd v cin).reg .a = BitVec.ofNat 8 (s.regs.a.toNat + v.toNat + cin.toNat) ∧
      SumFlags s.regs.a v cin (BitVec.ofNat 8 (s.regs.a.toNat + v.toNat + cin.toNat))
        (s.accAdd v cin) ∧
      KeepsReservedFlags s (s.accAdd v cin) ∧ ChangesRegsAndFlags [.a] s (s.accAdd v cin) := by
  obtain ⟨hreserved, -⟩ := accAdd_flags s v cin
  exact ⟨rfl, ⟨add8_cy s.regs.a v cin s.flags, rfl, resultFlags_of_szp rfl⟩, hreserved,
    setAccFlags_changes s _ _⟩

theorem accSub_effect (bin : Bool) :
    (s.accSub v bin).reg .a =
        BitVec.ofNat 8 (s.regs.a.toNat + 512 - v.toNat - bin.toNat) ∧
      DifferenceFlags s.regs.a v bin
        (BitVec.ofNat 8 (s.regs.a.toNat + 512 - v.toNat - bin.toNat)) (s.accSub v bin) ∧
      KeepsReservedFlags s (s.accSub v bin) ∧ ChangesRegsAndFlags [.a] s (s.accSub v bin) := by
  obtain ⟨hreserved, -⟩ := accSub_flags s v bin
  rw [← sub8_fst Config.acSub s.regs.a v bin s.flags]
  exact ⟨rfl, ⟨rfl, acFromBorrow_of_acOfBorrow rfl, resultFlags_of_szp rfl⟩, hreserved,
    setAccFlags_changes s _ _⟩

theorem accCompare_effect :
    DifferenceFlags s.regs.a v false (BitVec.ofNat 8 (s.regs.a.toNat + 256 - v.toNat))
        (s.accCompare v) ∧
      (s.accCompare v).flags.z = decide (s.regs.a = v) ∧
      (s.accCompare v).flags.cy = decide (s.regs.a.toNat < v.toNat) ∧
      KeepsReservedFlags s (s.accCompare v) ∧ ChangesRegsAndFlags [] s (s.accCompare v) := by
  obtain ⟨hreserved, -⟩ := accCompare_flags s v
  rw [← sub8_fst_of_no_borrow Config.acSub s.regs.a v s.flags]
  exact ⟨⟨rfl, acFromBorrow_of_acOfBorrow rfl, resultFlags_of_szp rfl⟩,
    cmp8_z Config.acSub s.regs.a v s.flags, rfl, hreserved,
    fun _ _ => rfl, fun _ _ => rfl, ⟨rfl, rfl⟩, ⟨rfl, rfl, rfl, rfl⟩, rfl, rfl⟩

end

/-- Settles O41: one `ADD8` of `A` and the second operand, with the old `CY` as carry-in or none. -/
theorem addsToAccumulator : Obligations.AddsToAccumulator :=
  fun src carry => ⟨decodes_accumulator src _,
    fun s => ⟨_, exec_addition src s carry, accAdd_effect s (src.value s) (carry && s.flags.cy)⟩⟩

/-- Settles O42: one `SUB8` of `A` and the second operand, with the old `CY` as borrow-in or none. -/
theorem subtractsFromAccumulator : Obligations.SubtractsFromAccumulator :=
  fun src borrow => ⟨decodes_accumulator src _,
    fun s => ⟨_, exec_subtraction src s borrow,
      accSub_effect s (src.value s) (borrow && s.flags.cy)⟩⟩

/-- Settles O43: the flags of `SUB8` without borrow-in, and no register written. -/
theorem comparesWithAccumulator : Obligations.ComparesWithAccumulator :=
  fun src => ⟨decodes_accumulator src .cmp,
    fun s => ⟨_, exec_accumulator src .cmp s, accCompare_effect s (src.value s)⟩⟩

end Sys2Proof.Machine

namespace Sys2Proof

/-! ## `DAD` (R209) -/

theorem opcodeForm_dad (p : Rp) :
    opcodeForm (BitVec.ofNat 8 (0x09 + 16 * p.code.toNat)) = .alone (.dad p) := by
  cases p <;> rfl

end Sys2Proof

namespace Sys2Proof.Machine

theorem exec_dad (p : Rp) (s : State) : exec (.dad p) s = .next (s.addPairToHl p) := by
  cases p <;> rfl

theorem addPairToHl_hl (s : State) (p : Rp) :
    (s.addPairToHl p).hl = (add16 s.hl (s.rp p) s.flags).1 :=
  s.hl_setHl _

/-- `DAD` writes `HL` and `CY`; the write of `HL` is that of `setHl`. -/
theorem addPairToHl_writes (s : State) (p : Rp) :
    WritesPair .hl (s.addPairToHl p).hl s (s.addPairToHl p) := by
  obtain ⟨⟨-, hpairs, ha, hpc, hmem, hsystem⟩, -⟩ :=
    setRp_writes s .hl (add16 s.hl (s.rp p) s.flags).1
  refine ⟨rfl, fun q hq => ?_, ha, hpc, hmem, hsystem⟩
  cases q <;> exact hpairs _ hq

/-- Settles O44: `ADD16` is the 17-bit sum, also where the pair is `HL`. -/
theorem dadAddsPairToHl : Obligations.DadAddsPairToHl := by
  refine fun p => ⟨decodes_of_alone (opcodeForm_dad p), fun s =>
    ⟨_, exec_dad p s, ?_, addPairToHl_writes s p, addPairToHl_flags s p⟩⟩
  rw [addPairToHl_hl]
  exact add16_sum s.hl (s.rp p) s.flags

/-! ## `DAA` after an addition of packed decimal bytes (R201 to R204; 45_rotate_daa_carry.md R234)

A packed decimal byte holds a digit below ten in each nibble. The low correction turns the binary sum
into `digitSum`, which holds the tens of the decimal sum above its units; the high correction takes a
hundred out of the tens. -/

/-- Both nibbles are digits. -/
def IsPacked (v : Byte) : Prop := v.toNat / 16 < 10 ∧ v.toNat % 16 < 10

/-- The number that a packed decimal byte stands for. -/
def decimalValue (v : Byte) : Nat := 10 * (v.toNat / 16) + v.toNat % 16

/-- The binary sum with the carry from the units to the tens made at ten: 6 more than the binary sum
where the units exceed nine. -/
def digitSum (a b : Byte) (cin : Bool) : Nat :=
  a.toNat + b.toNat + cin.toNat + if a.toNat % 16 + b.toNat % 16 + cin.toNat > 9 then 6 else 0

section
variable {a b : Byte} (cin : Bool)

/-- The high part of `digitSum` counts the tens of the decimal sum, the low nibble its units. -/
theorem digitSum_decimal (ha : IsPacked a) (hb : IsPacked b) :
    digitSum a b cin % 16 < 10 ∧ digitSum a b cin / 16 < 20 ∧
      10 * (digitSum a b cin / 16) + digitSum a b cin % 16 =
        decimalValue a + decimalValue b + cin.toNat := by
  obtain ⟨hahigh, halow⟩ := ha
  obtain ⟨hbhigh, hblow⟩ := hb
  have hcin := Bool.toNat_le cin
  unfold digitSum decimalValue
  split <;> omega

/-- The low correction is made just where the units exceed nine (40_alu_microops.md R146). -/
theorem add8_low_adjusts_iff (ha : IsPacked a) (hb : IsPacked b) (f : Flags) :
    ((add8 a b cin f).1.toNat % 16 > 9 ∨ (add8 a b cin f).2.ac = true) ↔
      a.toNat % 16 + b.toNat % 16 + cin.toNat > 9 := by
  obtain ⟨-, halow⟩ := ha
  obtain ⟨-, hblow⟩ := hb
  have hcin := Bool.toNat_le cin
  rw [add8_toNat, add8_ac, decide_eq_true_eq]
  omega

/-- The low correction leaves `digitSum` modulo 256. -/
theorem daaLow_add8_toNat (ha : IsPacked a) (hb : IsPacked b) (f : Flags) :
    (daaLow (add8 a b cin f).1 (add8 a b cin f).2).1.toNat = digitSum a b cin % 256 := by
  have hiff := add8_low_adjusts_iff cin ha hb f
  unfold digitSum
  by_cases h : a.toNat % 16 + b.toNat % 16 + cin.toNat > 9
  · rw [daaLow_add (hiff.2 h), if_pos h, BitVec.toNat_add, add8_toNat]
    exact Nat.mod_add_mod _ _ _
  · rw [daaLow_keep (mt hiff.1 h), if_neg h, add8_toNat, Nat.add_zero]

end

/-- The high correction with `CY` as the ninth bit of its operand: it takes ten out of the tens. -/
theorem daaHigh_hundred {a : Byte} {f : Flags} {n : Nat} (hn : n / 16 < 20) (ha : a.toNat = n % 256)
    (hcy : f.cy = true ↔ n > 255) :
    (daaHigh a f).1.toNat + 160 * (daaHigh a f).2.cy.toNat = n ∧ (daaHigh a f).1.toNat < 160 := by
  have hadjusts : (a.toNat / 16 > 9 ∨ f.cy = true) ↔ n / 16 > 9 := by
    rw [hcy]
    omega
  by_cases h : n / 16 > 9
  · rw [daaHigh_add (hadjusts.2 h), BitVec.toNat_add]
    simp only [Bool.toNat_true, BitVec.reduceToNat]
    omega
  · have hclear : f.cy = false := by
      rw [← Bool.not_eq_true, hcy]
      omega
    rw [daaHigh_keep (mt hadjusts.1 h)]
    simp only [hclear, Bool.toNat_false]
    omega

/-- The low correction has wrapped past 0xFF and left `CY` clear: no high correction is made. -/
theorem daaHigh_lost_carry {a : Byte} {f : Flags} {n : Nat} (hn : 256 ≤ n ∧ n < 262)
    (ha : a.toNat = n % 256) (hcy : f.cy = false) :
    (daaHigh a f).1.toNat + 256 = n ∧ (daaHigh a f).2.cy = false := by
  have hkeep : ¬(a.toNat / 16 > 9 ∨ f.cy = true) := by
    rw [hcy]
    simp only [Bool.false_eq_true, or_false]
    omega
  rw [daaHigh_keep hkeep]
  refine ⟨?_, hcy⟩
  dsimp only
  omega

/-- The 256 that a lost carry takes from the byte are sixteen of the tens. -/
theorem decimalValue_of_lost_carry {v : Byte} {n : Nat} (hv : v.toNat + 256 = n) :
    decimalValue v + 160 = 10 * (n / 16) + n % 16 := by
  unfold decimalValue
  omega

/-- The 160 that a high correction takes from the byte are ten of the tens. -/
theorem decimalValue_of_hundred {v : Byte} {n hundreds : Nat} (hn : n % 16 < 10)
    (hv : v.toNat + 160 * hundreds = n) (hlt : v.toNat < 160) :
    IsPacked v ∧ decimalValue v + 100 * hundreds = 10 * (n / 16) + n % 16 := by
  unfold IsPacked decimalValue
  omega

section
variable {a b : Byte} {cin : Bool} (f : Flags)

/-- Where the binary sum is in 0xFA..0xFF the low correction wraps, and its carry is lost. -/
theorem daa8_add8_of_lost_carry (ha : IsPacked a) (hb : IsPacked b)
    (h : 0xFA ≤ a.toNat + b.toNat + cin.toNat ∧ a.toNat + b.toNat + cin.toNat ≤ 0xFF) :
    (daa8 (add8 a b cin f).1 (add8 a b cin f).2).1.toNat + 256 = digitSum a b cin ∧
      (daa8 (add8 a b cin f).1 (add8 a b cin f).2).2.cy = false := by
  have hrange : 256 ≤ digitSum a b cin ∧ digitSum a b cin < 262 := by
    unfold digitSum
    split <;> omega
  have hcy : (add8 a b cin f).2.cy = false := by
    rw [add8_cy, decide_eq_false_iff_not]
    omega
  rw [daa8_eq, szp_cy]
  exact daaHigh_lost_carry hrange (daaLow_add8_toNat cin ha hb f) ((daaLow_cy _ _).trans hcy)

/-- Elsewhere `CY` after the addition is the ninth bit of `digitSum` too, and the high correction takes
the hundred out of the tens. -/
theorem daa8_add8_of_kept_carry (ha : IsPacked a) (hb : IsPacked b)
    (h : ¬(0xFA ≤ a.toNat + b.toNat + cin.toNat ∧ a.toNat + b.toNat + cin.toNat ≤ 0xFF)) :
    (daa8 (add8 a b cin f).1 (add8 a b cin f).2).1.toNat +
          160 * (daa8 (add8 a b cin f).1 (add8 a b cin f).2).2.cy.toNat = digitSum a b cin ∧
      (daa8 (add8 a b cin f).1 (add8 a b cin f).2).1.toNat < 160 := by
  obtain ⟨-, htens, -⟩ := digitSum_decimal cin ha hb
  have hcy : (add8 a b cin f).2.cy = true ↔ digitSum a b cin > 255 := by
    rw [add8_cy, decide_eq_true_eq]
    unfold digitSum
    split <;> omega
  rw [daa8_eq, szp_cy]
  exact daaHigh_hundred htens (daaLow_add8_toNat cin ha hb f) (by rwa [daaLow_cy])

end

/-- Settles O48: outside 0xFA..0xFF the two corrections take `digitSum` apart into hundreds, tens and
units; inside, the carry of the low correction is lost. -/
theorem addThenDaaIsDecimal : Obligations.AddThenDaaIsDecimal := by
  intro src carry s dec bcd cin binary ha hv
  obtain ⟨hunits, -, hdecimal⟩ := digitSum_decimal (carry && s.flags.cy) ha hv
  refine ⟨_, _, exec_addition src s carry, rfl, fun h => ?_, fun h => ?_⟩
  · obtain ⟨hresult, hcy⟩ := daa8_add8_of_lost_carry s.flags ha hv h
    exact ⟨(decimalValue_of_lost_carry hresult).trans hdecimal, hcy⟩
  · obtain ⟨hresult, hlt⟩ := daa8_add8_of_kept_carry s.flags ha hv h
    obtain ⟨hpacked, hvalue⟩ := decimalValue_of_hundred hunits hresult hlt
    exact ⟨hpacked, hvalue.trans hdecimal⟩

end Sys2Proof.Machine
end

section
/-! PROOFS. Logical operations, family 44_logical.md: `ANA`, `XRA`, `ORA` and their immediate forms are
`accLogic` of the bitwise result. -/

namespace Sys2Proof.Machine

/-- A new accumulator and new flags in the state that drawing `LOGIC_AC` leaves, which is the old one
but for the draw counter (44_logical.md R220). -/
theorem accLogic_effect (s : State) (v : Byte) :
    (s.accLogic v).reg .a = v ∧ ResultFlags v (s.accLogic v) ∧ (s.accLogic v).flags.cy = false ∧
      KeepsReservedFlags s (s.accLogic v) ∧ KeepsRegsBut [.a] s (s.accLogic v) ∧
      KeepsMemoryBut [] s (s.accLogic v) ∧ KeepsPointers s (s.accLogic v) ∧
      KeepsLatches s (s.accLogic v) ∧ (s.accLogic v).portEvents = s.portEvents := by
  obtain ⟨hcy, hreserved, hresult⟩ := accLogic_flags s v
  obtain ⟨hregs, hmem, hpointers, hlatches, hports, -⟩ :=
    setAccFlags_changes s.drawLogicAc.2 v (logic8 v s.drawLogicAc.1 s.flags)
  exact ⟨rfl, hresult, hcy, hreserved, hregs, hmem, hpointers, hlatches, hports⟩

/-- Settles O45: each of the three operations is `accLogic` of its bitwise result. -/
theorem logicalOperations : Obligations.LogicalOperations := by
  refine fun src x hx => ⟨decodes_accumulator src x.1,
    fun s => ⟨s.accLogic (x.2 s.regs.a (src.value s)), ?_, accLogic_effect s _⟩⟩
  simp only [List.mem_cons, List.not_mem_nil, or_false] at hx
  obtain rfl | rfl | rfl := hx
  · exact exec_accumulator src .ana s
  · exact exec_accumulator src .xra s
  · exact exec_accumulator src .ora s

end Sys2Proof.Machine
end

section
/-! PROOFS. Rotates, carry and complement, family 45_rotate_daa_carry.md: `RLC`, `RRC`, `RAL` and `RAR`
replace `A` and `CY` through a rotate, `STC` and `CMC` write `CY`, `CMA` writes `A`. -/

namespace Sys2Proof.Machine

/-! ## The results of the micro-operations, as numbers (40_alu_microops.md R142 to R145, R149) -/

theorem toNat_shiftLeft_one (a : Byte) : (a <<< 1).toNat = 2 * a.toNat % 256 := by
  rw [BitVec.toNat_shiftLeft, Nat.shiftLeft_eq, Nat.mul_comm, pow_one]

theorem toNat_shiftRight_one (a : Byte) : (a >>> 1).toNat = a.toNat / 2 := by
  rw [BitVec.toNat_ushiftRight, Nat.shiftRight_eq_div_pow, pow_one]

/-- Bytes with no 1 bit in common: their disjunction is their sum. -/
theorem toNat_or_of_disjoint {a b : Byte} (h : a &&& b = 0) :
    (a ||| b).toNat = a.toNat + b.toNat := by
  rw [← BitVec.add_eq_or_of_and_eq_zero a b h, BitVec.toNat_add_of_and_eq_zero h]

/-- A shift to the left vacates bit 0. -/
theorem shiftLeft_one_and_bit_zero (a : Byte) (c : Bool) :
    a <<< 1 &&& BitVec.ofNat 8 c.toNat = 0 := by
  revert a c; decide

/-- A shift to the right vacates bit 7. -/
theorem shiftRight_one_and_bit_seven (a : Byte) (c : Bool) :
    a >>> 1 &&& BitVec.ofNat 8 c.toNat <<< 7 = 0 := by
  revert a c; decide

section
variable (a : Byte) (f : Flags)

theorem rlc8_toNat : (rlc8 a f).1.toNat = 2 * a.toNat % 256 + a.toNat / 128 := by
  have hbit : (a.getLsbD 7).toNat = a.toNat / 2 ^ 7 % 2 := Nat.toNat_testBit _ _
  have ha := a.isLt
  simp only [rlc8]
  rw [toNat_or_of_disjoint (shiftLeft_one_and_bit_zero a _), toNat_shiftLeft_one, hbit,
    BitVec.toNat_ofNat]
  omega

theorem rrc8_toNat : (rrc8 a f).1.toNat = a.toNat / 2 + 128 * (a.toNat % 2) := by
  have hbit : (a.getLsbD 0).toNat = a.toNat / 2 ^ 0 % 2 := Nat.toNat_testBit _ _
  simp only [rrc8]
  rw [toNat_or_of_disjoint (shiftRight_one_and_bit_seven a _), toNat_shiftRight_one, hbit,
    BitVec.toNat_shiftLeft, Nat.shiftLeft_eq, BitVec.toNat_ofNat]
  omega

theorem ral8_toNat : (ral8 false a f).1.toNat = 2 * a.toNat % 256 := by
  rw [← toNat_shiftLeft_one]
  exact congrArg BitVec.toNat BitVec.or_zero

theorem rar8_toNat : (rar8 false a f).1.toNat = a.toNat / 2 := by
  rw [← toNat_shiftRight_one]
  exact congrArg BitVec.toNat BitVec.or_zero

theorem complement8_toNat : (complement8 a).toNat = 255 - a.toNat := by
  have hnot : complement8 a = ~~~a := BitVec.xor_allOnes
  rw [hnot, BitVec.toNat_not]

end

/-! ## The rotates (R230 to R233) -/

/-- A rotate whose micro-operation gives `A` the value `n` and of `F` writes `CY` alone. -/
theorem rotateA_effect {s : State} {op : Byte → Flags → Byte × Flags} {n : Nat} {c : Bool}
    (hresult : (op s.regs.a s.flags).1.toNat = n)
    (hflags : (op s.regs.a s.flags).2 = { s.flags with cy := c }) :
    ((s.rotateA op).reg .a).toNat = n ∧ (s.rotateA op).flags.cy = c ∧
      KeepsFlagsButCarry s (s.rotateA op) ∧ ChangesRegsAndFlags [.a] s (s.rotateA op) := by
  have hf : (s.rotateA op).flags = { s.flags with cy := c } := hflags
  refine ⟨hresult, ?_, ?_, setAccFlags_changes s _ _⟩
  · rw [hf]
  · rw [KeepsFlagsButCarry, KeepsReservedFlags, hf]
    exact ⟨rfl, rfl, rfl, rfl, rfl, rfl, rfl⟩

/-- Settles O46: each rotate is `rotateA` of its micro-operation, for `RAL` and `RAR` the one that leaves
0 in the vacated bit, as `ROTATE_THROUGH_CARRY` is not set. -/
theorem rotatesShiftOneBit : Obligations.RotatesShiftOneBit := by
  refine ⟨decodes_of_alone rfl, decodes_of_alone rfl, decodes_of_alone rfl, decodes_of_alone rfl,
    fun s x hx => ?_⟩
  simp only [List.mem_cons, List.not_mem_nil, or_false] at hx
  obtain rfl | rfl | rfl | rfl := hx
  · exact ⟨s.rotateA rlc8, rfl, rotateA_effect (rlc8_toNat _ _) rfl⟩
  · exact ⟨s.rotateA rrc8, rfl, rotateA_effect (rrc8_toNat _ _) rfl⟩
  · exact ⟨s.rotateA (ral8 false), rfl, rotateA_effect (ral8_toNat _ _) rfl⟩
  · exact ⟨s.rotateA (rar8 false), rfl, rotateA_effect (rar8_toNat _ _) rfl⟩

/-! ## Carry and complement (R235 to R237) -/

/-- `CMA` is a write of `A`. -/
theorem complementA_changes (s : State) :
    (s.complementA.reg .a).toNat = 255 - s.regs.a.toNat ∧ ChangesRegsOnly [.a] s s.complementA := by
  obtain ⟨ha, hkeeps⟩ := setReg_changes s .a (complement8 s.regs.a)
  exact ⟨(congrArg BitVec.toNat ha).trans (complement8_toNat s.regs.a), hkeeps⟩

/-- Settles O49: `STC` and `CMC` are updates of `CY`, `CMA` is a write of `A`. -/
theorem carryAndComplement : Obligations.CarryAndComplement :=
  ⟨decodes_of_alone rfl, decodes_of_alone rfl, decodes_of_alone rfl,
    fun s => ⟨rfl, rfl, s.complementA, rfl, complementA_changes s⟩⟩

end Sys2Proof.Machine
end

section
/-! PROOFS. Control transfer, family 46_control_transfer.md: each instruction is a jump, a call or a
return, the conditional ones only where the condition table says so. -/

namespace Sys2Proof

/-! ## Where the families stand in the opcode map (30_encoding.md R99, R100, R104) -/

section
variable (cond : Cond)

theorem opcodeForm_jumpIf :
    opcodeForm (BitVec.ofNat 8 (0xC2 + 8 * cond.code.toNat)) = .withWord (.jumpIf cond) := by
  cases cond <;> rfl

theorem opcodeForm_callIf :
    opcodeForm (BitVec.ofNat 8 (0xC4 + 8 * cond.code.toNat)) = .withWord (.callIf cond) := by
  cases cond <;> rfl

theorem opcodeForm_retIf :
    opcodeForm (BitVec.ofNat 8 (0xC0 + 8 * cond.code.toNat)) = .alone (.retIf cond) := by
  cases cond <;> rfl

end

theorem opcodeForm_rst (n : Fin 8) :
    opcodeForm (BitVec.ofNat 8 (0xC7 + 8 * n.val)) = .alone (.rst n) := by
  fin_cases n <;> rfl

end Sys2Proof

namespace Sys2Proof.Machine

/-! ## The condition table (R250) -/

/-- Each condition with what it says of the flags, as the statements of this family list them. -/
def conditionTable (f : Flags) : List (Cond × Prop) :=
  [(.nz, f.z = false), (.z, f.z = true), (.nc, f.cy = false), (.c, f.cy = true),
    (.po, f.p = false), (.pe, f.p = true), (.p, f.s = false), (.m, f.s = true)]

theorem cond_iff_of_mem_conditionTable {f : Flags} {x : Cond × Prop} (hx : x ∈ conditionTable f) :
    f.cond x.1 = true ↔ x.2 := by
  simp only [conditionTable, List.mem_cons, List.not_mem_nil, or_false] at hx
  obtain rfl | rfl | rfl | rfl | rfl | rfl | rfl | rfl := hx <;> simp [Flags.cond]

/-! ## Conditional transfers, taken and untaken (R251) -/

section
variable {s : State} {cond : Cond} (a : Word)

theorem exec_jumpIf_taken (h : s.flags.cond cond = true) :
    exec (.jumpIf cond a) s = .next (s.jump a) :=
  (exec_jumpIf cond a s).trans (congrArg _ (if_pos h))

theorem exec_jumpIf_untaken (h : ¬s.flags.cond cond = true) : exec (.jumpIf cond a) s = .next s :=
  (exec_jumpIf cond a s).trans (congrArg _ (if_neg h))

theorem exec_callIf_taken (h : s.flags.cond cond = true) :
    exec (.callIf cond a) s = .next (s.call a) :=
  (exec_callIf cond a s).trans (congrArg _ (if_pos h))

theorem exec_callIf_untaken (h : ¬s.flags.cond cond = true) : exec (.callIf cond a) s = .next s :=
  (exec_callIf cond a s).trans (congrArg _ (if_neg h))

theorem exec_retIf_taken (h : s.flags.cond cond = true) : exec (.retIf cond) s = .next s.ret :=
  (exec_retIf cond s).trans (congrArg _ (if_pos h))

theorem exec_retIf_untaken (h : ¬s.flags.cond cond = true) : exec (.retIf cond) s = .next s :=
  (exec_retIf cond s).trans (congrArg _ (if_neg h))

end

/-! ## Jumps, calls, returns -/

/-- Settles O50: a taken conditional jump is `JMP`, and 0xCB is `JMP` as `CB_BEHAVIOUR` is `jmp`. -/
theorem jumpsReplacePc : Obligations.JumpsReplacePc := by
  refine ⟨fun lo hi => ⟨decodes_of_withWord rfl lo hi, decodes_of_withWord rfl lo hi,
      fun cond => decodes_of_withWord (opcodeForm_jumpIf cond) lo hi⟩,
    decodes_of_alone rfl, fun s a16 => ⟨rfl, rfl, rfl, fun x hx => ?_⟩⟩
  have hcond : s.flags.cond x.1 = true ↔ x.2 := cond_iff_of_mem_conditionTable hx
  exact ⟨fun h => exec_jumpIf_taken a16 (hcond.2 h), fun h => exec_jumpIf_untaken a16 (mt hcond.1 h)⟩

/-- Settles O51: the aliases and the taken conditional calls are `CALL`, which `call_pushes` describes. -/
theorem callsPushReturnAddress : Obligations.CallsPushReturnAddress := by
  refine ⟨fun lo hi => ⟨decodes_of_withWord rfl lo hi, decodes_of_withWord rfl lo hi,
      decodes_of_withWord rfl lo hi, decodes_of_withWord rfl lo hi,
      fun cond => decodes_of_withWord (opcodeForm_callIf cond) lo hi⟩,
    fun s a16 => ⟨⟨s.call a16, rfl, call_pushes s a16, rfl, rfl, rfl⟩, fun x hx => ?_⟩⟩
  have hcond : s.flags.cond x.1 = true ↔ x.2 := cond_iff_of_mem_conditionTable hx
  exact ⟨fun h => ⟨s.call a16, exec_callIf_taken a16 (hcond.2 h), call_pushes s a16⟩,
    fun h => exec_callIf_untaken a16 (mt hcond.1 h)⟩

/-- Settles O52: 0xD9 and the taken conditional returns are `RET`, which `ret_returns` describes. -/
theorem returnsPopPc : Obligations.ReturnsPopPc := by
  refine ⟨decodes_of_alone rfl, decodes_of_alone rfl,
    fun cond => decodes_of_alone (opcodeForm_retIf cond),
    fun s => ⟨⟨s.ret, rfl, ret_returns s, rfl⟩, fun x hx => ?_⟩⟩
  have hcond : s.flags.cond x.1 = true ↔ x.2 := cond_iff_of_mem_conditionTable hx
  exact ⟨fun h => ⟨s.ret, exec_retIf_taken (hcond.2 h), ret_returns s⟩,
    fun h => exec_retIf_untaken (mt hcond.1 h)⟩

/-! ## Restarts (R279) -/

/-- `RST n` is a call of the address `8*n`. -/
theorem exec_rst (n : Fin 8) (s : State) :
    exec (.rst n) s = .next (s.call (BitVec.ofNat 16 (8 * n.val))) := by
  fin_cases n <;> rfl

/-- Settles O53: one row of the opcode map and one call for each `n`. -/
theorem restartPushesAndJumps : Obligations.RestartPushesAndJumps :=
  fun n => ⟨decodes_of_alone (opcodeForm_rst n), fun s => ⟨_, exec_rst n s, call_pushes s _⟩⟩

end Sys2Proof.Machine
end

section
/-! PROOFS. The stack, family 47_stack.md: `PUSH` is one push of the pair as a word, and `POP` one write
of the pair with the word at `SP`; the laws of the word and of the pair give both by halves. -/

namespace Sys2Proof

/-! ## Where the families stand in the opcode map (30_encoding.md R98) -/

theorem opcodeForm_push (p : Rpq) :
    opcodeForm (BitVec.ofNat 8 (0xC5 + 16 * p.code.toNat)) = .alone (.push p) := by
  cases p <;> rfl

theorem opcodeForm_pop (p : Rpq) :
    opcodeForm (BitVec.ofNat 8 (0xC1 + 16 * p.code.toNat)) = .alone (.pop p) := by
  cases p <;> rfl

end Sys2Proof

namespace Sys2Proof.Machine

section
variable (s : State)

/-! ## Which operation a family is (R292 to R295) -/

theorem exec_push (p : Rpq) : exec (.push p) s = .next (s.pushPair p) := by
  cases p <;> rfl

theorem exec_pop (p : Rpq) : exec (.pop p) s = .next (s.popPair p) := by
  cases p <;> rfl

/-! ## The halves of a pair (10_state.md R22, R23, R25) -/

@[simp] theorem State.loByte_bc : loByte s.bc = s.reg .c := loByte_joinBytes _ _

@[simp] theorem State.hiByte_bc : hiByte s.bc = s.reg .b := hiByte_joinBytes _ _

@[simp] theorem State.loByte_psw : loByte s.psw = s.flags.toByte := loByte_joinBytes _ _

@[simp] theorem State.hiByte_psw : hiByte s.psw = s.reg .a := hiByte_joinBytes _ _

/-- `BC <- v`, by halves (10_state.md R22). -/
theorem setBc_changes (v : Word) :
    (s.setBc v).reg .c = loByte v ∧ (s.setBc v).reg .b = hiByte v ∧
      ChangesRegsOnly [.b, .c] s (s.setBc v) := by
  refine ⟨rfl, rfl, ?_, fun _ _ => rfl, rfl, ⟨rfl, rfl⟩, ⟨rfl, rfl, rfl, rfl⟩, rfl, rfl⟩
  intro r hr
  cases r <;> simp at hr <;> rfl

/-- `DE <- v`, by halves (10_state.md R23). -/
theorem setDe_changes (v : Word) :
    (s.setDe v).reg .e = loByte v ∧ (s.setDe v).reg .d = hiByte v ∧
      ChangesRegsOnly [.d, .e] s (s.setDe v) := by
  refine ⟨rfl, rfl, ?_, fun _ _ => rfl, rfl, ⟨rfl, rfl⟩, ⟨rfl, rfl, rfl, rfl⟩, rfl, rfl⟩
  intro r hr
  cases r <;> simp at hr <;> rfl

/-! ## What a push and a pop leave alone -/

theorem pushPair_keeps (p : Rpq) :
    KeepsRegsBut [] s (s.pushPair p) ∧ (s.pushPair p).flags = s.flags ∧
      KeepsSystem s (s.pushPair p) :=
  ⟨fun _ _ => rfl, rfl, ⟨rfl, rfl, rfl, rfl⟩, rfl, rfl⟩

@[simp] theorem State.popPair_sp (p : Rpq) : (s.popPair p).sp = s.sp + 2 := by cases p <;> rfl

@[simp] theorem State.popPair_pc (p : Rpq) : (s.popPair p).pc = s.pc := by cases p <;> rfl

theorem popPair_keeps (p : Rpq) :
    KeepsMemoryBut [] s (s.popPair p) ∧ KeepsSystem s (s.popPair p) := by
  cases p <;> exact ⟨fun _ _ => rfl, ⟨rfl, rfl, rfl, rfl⟩, rfl, rfl⟩

theorem popPair_flags {p : Rpq} (hp : p ≠ .psw) : (s.popPair p).flags = s.flags := by
  cases p with
  | psw => exact absurd rfl hp
  | bc | de | hl => rfl

/-! ## What a pop loads (R294, R295) -/

theorem popPair_bc :
    (s.popPair .bc).reg .c = s.readByte s.sp ∧ (s.popPair .bc).reg .b = s.readByte (s.sp + 1) ∧
      KeepsRegsBut [.b, .c] s (s.popPair .bc) ∧ (s.popPair .bc).flags = s.flags := by
  obtain ⟨hlow, hhigh, hregs, -⟩ := setBc_changes { s with sp := s.sp + 2 } (s.readWord s.sp)
  exact ⟨hlow.trans (s.loByte_readWord _), hhigh.trans (s.hiByte_readWord _), hregs, rfl⟩

theorem popPair_de :
    (s.popPair .de).reg .e = s.readByte s.sp ∧ (s.popPair .de).reg .d = s.readByte (s.sp + 1) ∧
      KeepsRegsBut [.d, .e] s (s.popPair .de) ∧ (s.popPair .de).flags = s.flags := by
  obtain ⟨hlow, hhigh, hregs, -⟩ := setDe_changes { s with sp := s.sp + 2 } (s.readWord s.sp)
  exact ⟨hlow.trans (s.loByte_readWord _), hhigh.trans (s.hiByte_readWord _), hregs, rfl⟩

theorem popPair_hl :
    (s.popPair .hl).reg .l = s.readByte s.sp ∧ (s.popPair .hl).reg .h = s.readByte (s.sp + 1) ∧
      KeepsRegsBut [.h, .l] s (s.popPair .hl) ∧ (s.popPair .hl).flags = s.flags := by
  obtain ⟨hlow, hhigh, hregs, -⟩ := setHl_changes { s with sp := s.sp + 2 } (s.readWord s.sp)
  exact ⟨hlow.trans (s.loByte_readWord _), hhigh.trans (s.hiByte_readWord _), hregs, rfl⟩

/-- `POP PSW` loads `A` from the high byte and `F` from the low one, as far as `F` takes it (R295). -/
theorem popPair_psw :
    (s.popPair .psw).reg .a = s.readByte (s.sp + 1) ∧ KeepsRegsBut [.a] s (s.popPair .psw) ∧
      (s.popPair .psw).flags = Flags.ofPopped (s.readByte s.sp) :=
  ⟨s.hiByte_readWord _, (setAccFlags_changes { s with sp := s.sp + 2 } _ _).1,
    congrArg Flags.ofPopped (s.loByte_readWord _)⟩

/-- A pair but `PSW`, whose `F` has fixed bits, holds the whole word that was at `SP`. -/
theorem popPair_rpq {p : Rpq} (hp : p ≠ .psw) : (s.popPair p).rpq p = s.readWord s.sp := by
  cases p with
  | bc => exact State.bc_setBc _ _
  | de => exact State.de_setDe _ _
  | hl => exact State.hl_setHl _ _
  | psw => exact absurd rfl hp

/-- The word at the new `SP` is the word pushed (R290, R291). -/
theorem readWord_pushPair_sp (p : Rpq) : (s.pushPair p).readWord (s.pushPair p).sp = s.rpq p :=
  State.readWord_writeWord _ _ _

end

/-! ## `PUSH` and `POP` -/

/-- Settles O55: `push16_bytes` says where the halves of the word pushed stand; they are those of the
pair. -/
theorem pushStoresPair : Obligations.PushStoresPair := by
  refine fun p => ⟨decodes_of_alone (opcodeForm_push p), fun s => ?_⟩
  obtain ⟨hlow, hhigh, hmem⟩ := push16_bytes s (s.rpq p)
  refine ⟨s.pushPair p, exec_push s p, rfl, rfl, ?_, hmem, pushPair_keeps s p⟩
  cases p with
  | bc => exact ⟨hlow.trans s.loByte_bc, hhigh.trans s.hiByte_bc⟩
  | de => exact ⟨hlow.trans s.loByte_de, hhigh.trans s.hiByte_de⟩
  | hl => exact ⟨hlow.trans s.loByte_hl, hhigh.trans s.hiByte_hl⟩
  | psw => exact ⟨hlow.trans s.loByte_psw, hhigh.trans s.hiByte_psw⟩

/-- Settles O56: the pairs of registers by their writes; for `PSW`, the flags are `Flags.ofPopped` of the
byte at `SP`. -/
theorem popLoadsPair : Obligations.PopLoadsPair := by
  refine fun p => ⟨decodes_of_alone (opcodeForm_pop p), fun s =>
    ⟨s.popPair p, exec_pop s p, s.popPair_sp p, s.popPair_pc p, ?_, popPair_keeps s p⟩⟩
  cases p with
  | bc => exact popPair_bc s
  | de => exact popPair_de s
  | hl => exact popPair_hl s
  | psw =>
    obtain ⟨ha, hregs, hflags⟩ := popPair_psw s
    obtain ⟨hs, hz, hac, hp, hcy⟩ := Flags.ofPopped_conditions (s.readByte s.sp)
    have hreserved := Flags.ofPopped_reserved (s.readByte s.sp)
    rw [← hflags] at hs hz hac hp hcy hreserved
    exact ⟨ha, hregs, popPsw_flags s, hs, hz, hac, hp, hcy, hreserved⟩

/-- Settles O57: the pop reads back the word just pushed, and `SP` comes back by 16-bit arithmetic. -/
theorem pushThenPopCopiesPair : Obligations.PushThenPopCopiesPair := fun p q s hq =>
  ⟨s.pushPair p, (s.pushPair p).popPair q, exec_push s p, exec_pop _ q,
    (popPair_rpq _ hq).trans (readWord_pushPair_sp s p),
    (State.popPair_sp _ q).trans (BitVec.sub_add_cancel s.sp 2), popPair_flags _ hq⟩

end Sys2Proof.Machine
end

section
/-! PROOFS. Ports, interrupt control, halt and no operation, family 48_io_interrupt_nop.md: `IN` is a read
of the port, then one write of `A`; the others are one update each, or none. -/

namespace Sys2Proof

/-! ## Where the aliases of `NOP` stand in the opcode map (30_encoding.md R106) -/

theorem opcodeForm_nopAlias (n : Fin 7) :
    opcodeForm (BitVec.ofNat 8 (8 * (n.val + 1))) = .alone (.nopAlias n) := by
  fin_cases n <;> rfl

end Sys2Proof

namespace Sys2Proof.Machine

/-! ## Ports (R300, R301) -/

/-- `IN` records the read of the port, and the rest of its effect is a write of `A`. -/
theorem input_effect (s : State) (p8 : Byte) :
    (s.input p8).reg .a = (s.portIn p8).1 ∧
      (s.input p8).portEvents = s.portEvents ++ [.inp p8 (s.portIn p8).1] ∧
      KeepsRegsBut [.a] s (s.input p8) ∧ (s.input p8).flags = s.flags ∧
      KeepsMemoryBut [] s (s.input p8) ∧ KeepsPointers s (s.input p8) ∧
      KeepsLatches s (s.input p8) := by
  obtain ⟨ha, hregs, hmem, hflags, hpointers, hlatches, hevents, -⟩ :=
    setReg_changes (s.portIn p8).2 .a (s.portIn p8).1
  exact ⟨ha, hevents.trans (s.portIn_snd_portEvents p8), hregs, hflags, hmem, hpointers, hlatches⟩

/-- Settles O58: `input_effect` describes `IN`, and `OUT` is one recorded event. -/
theorem inAndOutReachPorts : Obligations.InAndOutReachPorts := fun p8 =>
  ⟨decodes_of_withByte rfl p8, decodes_of_withByte rfl p8,
    fun s => ⟨s.input p8, (s.portIn p8).1, rfl, input_effect s p8⟩, fun _ => rfl⟩

/-! ## Interrupt control, halt and no operation (R302 to R306) -/

theorem exec_nopAlias (n : Fin 7) (s : State) : exec (.nopAlias n) s = .next s := by
  fin_cases n <;> rfl

/-- Settles O59: `DI`, `EI` and `HLT` are one update of a latch each, `NOP` and its aliases none. -/
theorem diEiHltNop : Obligations.DiEiHltNop :=
  ⟨decodes_of_alone rfl, decodes_of_alone rfl, decodes_of_alone rfl, decodes_of_alone rfl,
    fun n => decodes_of_alone (opcodeForm_nopAlias n),
    fun s => ⟨rfl, rfl, rfl, rfl, fun n => exec_nopAlias n s⟩⟩

end Sys2Proof.Machine
end

section
/-! PROOFS. Exceptions, family 60_exceptions.md: the request, the three kinds of step, what service leaves,
the permanent halt, the reachable states and `load`. -/

namespace Sys2Proof.Machine

/-! ## The request (60_exceptions.md R323 to R325) -/

section
variable {s : State} (v : Byte)

theorem State.interrupt_of_enabled (h : s.inte = true) :
    s.interrupt v = { s with inte := false, intVector := v, intPending := true } :=
  if_pos h

theorem State.interrupt_of_disabled (h : s.inte = false) : s.interrupt v = s :=
  if_neg (Bool.eq_false_iff.1 h)

/-- An accepted request clears `INTE`; one is dropped only where `INTE` is clear already. -/
theorem State.interrupt_inte (s : State) : (s.interrupt v).inte = false := by
  cases h : s.inte with
  | true => rw [State.interrupt_of_enabled v h]
  | false => rw [State.interrupt_of_disabled v h, h]

@[simp] theorem State.interrupt_halted (s : State) : (s.interrupt v).halted = s.halted := by
  unfold State.interrupt; split <;> rfl

end

/-- Settles O12: the second request finds `INTE` clear (`State.interrupt_inte`). -/
theorem interruptRequestProtocol : Obligations.InterruptRequestProtocol :=
  fun s v w => ⟨State.interrupt_of_enabled v, State.interrupt_of_disabled v,
    State.interrupt_of_disabled w (s.interrupt_inte v)⟩

/-! ## The order of a step (60_exceptions.md R326, R328, R329) -/

/-- The gate of the step as the statements write it (R326). -/
theorem State.gateOpen_iff (s : State) (g : Config.IntStepGate) :
    s.gateOpen g = true ↔ g = .pendingOnly ∨ (g = .pendingAndInte ∧ s.inte = true) := by
  cases g <;> simp [State.gateOpen]

/-- Settles O13: the two tests of `stepUnder` in turn, the gate by `State.gateOpen_iff`. -/
theorem stepDecidesInOrder : Obligations.StepDecidesInOrder := by
  refine ⟨fun g s => ?_, fun _ => rfl⟩
  intro gate
  have hserves : (s.intPending && s.gateOpen g) = true ↔ s.intPending = true ∧ gate :=
    Bool.and_eq_true_iff.trans (and_congr_right' (s.gateOpen_iff g))
  refine ⟨fun h => if_pos (hserves.2 h), fun h hhalted => ?_, fun h hhalted => ?_⟩
  · exact (if_neg (mt hserves.1 h)).trans (if_neg (Bool.eq_false_iff.1 hhalted))
  · exact (if_neg (mt hserves.1 h)).trans (if_pos hhalted)

/-- Settles O14, by `step_of_decode`. -/
theorem stepRunsDecodedInstruction : Obligations.StepRunsDecodedInstruction :=
  fun _ _ _ hpending hhalted hdecode => step_of_decode hpending hhalted hdecode

/-- Settles O54: the step runs the transfer with `PC` moved and `F` as it was, and untaken it changes
nothing more. -/
theorem untakenTransferOnlyAdvances : Obligations.UntakenTransferOnlyAdvances := by
  intro s cond a16 i rest hi hpending hhalted hcond hdecode
  rw [step_of_decode hpending hhalted hdecode]
  have huntaken : ¬s.flags.cond cond = true := Bool.eq_false_iff.1 hcond
  obtain rfl | rfl | rfl := hi
  · exact exec_jumpIf_untaken a16 huntaken
  · exact exec_callIf_untaken a16 huntaken
  · exact exec_retIf_untaken huntaken

/-! ## Every step completes (60_exceptions.md R320; 70_reset_and_hazards.md R373) -/

theorem execute_completes (op : Byte) (s : State) : ∃ t, execute op s = .next t := by
  obtain ⟨i, pc, hexec⟩ := execute_eq_exec op s
  rw [hexec]
  exact exec_completes i _

theorem serviceInterrupt_completes (s : State) : ∃ t, serviceInterrupt s = .next t := by
  obtain ⟨t, ht⟩ := execute_completes s.intVector s.beginService
  exact ⟨t.endService, serviceInterrupt_of_next ht⟩

/-- Settles O17, by the three kinds of step. -/
theorem everyStepCompletes : Obligations.EveryStepCompletes := by
  intro s
  rcases step_cases s with ⟨-, hs⟩ | ⟨-, -, hs⟩ | ⟨-, -, hs⟩ <;> rw [hs]
  · exact serviceInterrupt_completes s
  · exact ⟨s, rfl⟩
  · exact execute_completes _ _

/-! ## Interrupt service with `RST n` (60_exceptions.md R327, R334) -/

theorem execute_of_alone {op : Byte} {i : Instr} (h : opcodeForm op = .alone i) (s : State) :
    execute op s = exec i s := by
  simp [execute, State.fetchOperand, h]

/-- Service of `RST n` is a call of `8*n` between the two latch updates of service. -/
theorem step_of_pending_rst {s : State} {n : Fin 8} (hpending : s.intPending = true)
    (hvector : s.intVector = BitVec.ofNat 8 (0xC7 + 8 * n.val)) :
    step s = .next (s.beginService.call (BitVec.ofNat 16 (8 * n.val))).endService := by
  have hcall := (execute_of_alone (opcodeForm_rst n) s.beginService).trans (exec_rst n _)
  rw [← hvector] at hcall
  exact (step_of_pending hpending).trans (serviceInterrupt_of_next hcall)

/-- Settles O16: `call_pushes` describes the call, and service itself writes latches only. -/
theorem restartVectorService : Obligations.RestartVectorService := by
  intro s n hpending hvector
  obtain ⟨hpc, hsp, hlow, hhigh, hmem, hregs, hflags, ⟨hinte, -, -, hvec⟩, hports, hdraws⟩ :=
    call_pushes s.beginService (BitVec.ofNat 16 (8 * n.val))
  exact ⟨_, step_of_pending_rst hpending hvector, hinte, rfl, rfl, hvec, hpc, hsp, hlow, hhigh, hmem,
    hregs, hflags, hports, hdraws⟩

/-! ## The permanent halt (60_exceptions.md R324, R327, R329, R342) -/

/-- No move of the host reaches `HALTED` (R339). -/
theorem State.hostMove_halted (s : State) (m : HostMove) : (s.hostMove m).halted = s.halted := by
  by_cases hm : ∃ v, m = .interrupt v
  · obtain ⟨v, rfl⟩ := hm
    exact s.interrupt_halted v
  · obtain ⟨-, hhalted, -, -⟩ := s.hostMove_latches (not_exists.1 hm)
    exact hhalted

/-- `HALTED` is cleared only by a step with a request pending. -/
theorem halted_cleared_by_service {s t : State} {m : Move} (hs : s.halted = true)
    (h : s.apply m = .next t) (ht : t.halted = false) : m = .step ∧ s.intPending = true := by
  cases m with
  | step =>
    rcases step_cases s with ⟨hpending, -⟩ | ⟨-, -, hidle⟩ | ⟨-, hrunning, -⟩
    · exact ⟨rfl, hpending⟩
    · cases hidle.symm.trans h
      exact Bool.noConfusion (hs.symm.trans ht)
    · exact Bool.noConfusion (hs.symm.trans hrunning)
  | host m =>
    cases h
    exact Bool.noConfusion (hs.symm.trans ((s.hostMove_halted m).symm.trans ht))

/-- In the permanent halt a step idles and a request is dropped. -/
theorem Hung.apply_eq {s : State} (h : Hung s) {m : Move}
    (hm : m = .step ∨ ∃ v, m = .host (.interrupt v)) : s.apply m = .next s := by
  obtain ⟨hhalted, hinte, hpending⟩ := h
  obtain rfl | ⟨v, rfl⟩ := hm
  · exact step_of_halted hpending hhalted
  · exact congrArg _ (State.interrupt_of_disabled v hinte)

theorem State.run_cons_of_next {s t : State} {m : Move} (h : s.apply m = .next t)
    (moves : List Move) : s.run (m :: moves) = t.run moves := by
  simp [State.run, h]

/-- Settles O18: the second part by induction on the run, each move of which changes nothing
(`Hung.apply_eq`). -/
theorem haltWithInterruptsDisabledIsPermanent :
    Obligations.HaltWithInterruptsDisabledIsPermanent := by
  refine ⟨fun _ _ _ => halted_cleared_by_service, fun s moves hhung hmoves => ?_⟩
  induction moves with
  | nil => rfl
  | cons m moves ih =>
    obtain ⟨hm, hrest⟩ := List.forall_mem_cons.1 hmoves
    rw [State.run_cons_of_next (hhung.apply_eq hm), ih hrest]

/-! ## Reachable states (10_state.md R48; 60_exceptions.md R323, R327) -/

/-- The invariant holds at reset and every move of the core and the host keeps it. -/
theorem Reachable.inv {s : State} (h : Reachable s) : Inv s := by
  induction h with
  | reset d hd => exact inv_resetWith hd
  | @move s t m _ hm ih =>
    cases m with
    | step => exact stepKeepsInvariant s t ih hm
    | host m =>
      cases hm
      exact (hostMovesKeepInvariant s m).1 ih

/-- Settles O22: it is the second half of the invariant. -/
theorem pendingImpliesDisabled : Obligations.PendingImpliesDisabled := by
  intro s h
  obtain ⟨-, hdisabled⟩ := h.inv
  exact hdisabled

/-! ## `load` (60_exceptions.md R338) -/

/-- The byte after the code goes to the address after the code's. -/
theorem State.load_concat (s : State) (origin : Word) (code : List Byte) (v : Byte) :
    s.load origin (code ++ [v]) =
      (s.load origin code).writeByte (origin + BitVec.ofNat 16 code.length) v := by
  induction code generalizing s origin with
  | nil => rw [List.length_nil, BitVec.add_zero]; rfl
  | cons u code ih =>
    have haddr : origin + 1 + BitVec.ofNat 16 code.length =
        origin + BitVec.ofNat 16 (u :: code).length := by
      rw [List.length_cons]
      bv_omega
    rw [← haddr]
    exact ih (s.writeByte origin u) (origin + 1)

/-- `load` writes the field `mem` alone. -/
theorem State.load_frame (s : State) (origin : Word) (code : List Byte) :
    { s.load origin code with mem := s.mem } = s := by
  induction code generalizing s origin with
  | nil => rfl
  | cons v code ih =>
    exact congrArg (fun t : State => { t with mem := s.mem }) (ih (s.writeByte origin v) (origin + 1))

/-- Settles O28, with the address of the last byte as a number. -/
theorem loadWritesBytesInOrder : Obligations.LoadWritesBytesInOrder := by
  intro s origin code v
  have haddr : BitVec.ofNat 16 ((origin.toNat + code.length) % 65536) =
      origin + BitVec.ofNat 16 code.length := by bv_omega
  rw [haddr]
  exact ⟨rfl, s.load_concat origin code v, s.load_frame origin code⟩

end Sys2Proof.Machine
end

section
/-! PROOFS. `DAA`, of the family 45_rotate_daa_carry.md: it adjusts `A` in two steps, of which the high one
sees the result of the low one (40_alu_microops.md R146). -/

namespace Sys2Proof.Machine

/-- `AC` after `DAA` is what the low step leaves, `A` and `CY` what the high step makes of the byte that
the low step left and of the old `CY`. -/
theorem decimalAdjustA_effect (s : State) :
    ∃ a1, (s.regs.a.toNat % 16 > 9 ∨ s.flags.ac = true →
        a1 = s.regs.a + 0x06 ∧ s.decimalAdjustA.flags.ac = true) ∧
      (¬(s.regs.a.toNat % 16 > 9 ∨ s.flags.ac = true) →
        a1 = s.regs.a ∧ s.decimalAdjustA.flags.ac = s.flags.ac) ∧
      (a1.toNat / 16 > 9 ∨ s.flags.cy = true →
        s.decimalAdjustA.regs.a = a1 + 0x60 ∧ s.decimalAdjustA.flags.cy = true) ∧
      (¬(a1.toNat / 16 > 9 ∨ s.flags.cy = true) →
        s.decimalAdjustA.regs.a = a1 ∧ s.decimalAdjustA.flags.cy = s.flags.cy) := by
  have ha : s.decimalAdjustA.regs.a = (daa8 s.regs.a s.flags).1 := rfl
  have hflags : s.decimalAdjustA.flags = (daa8 s.regs.a s.flags).2 := rfl
  rw [ha, hflags, daa8_eq, szp_ac, szp_cy, daaHigh_ac, ← daaLow_cy s.regs.a s.flags]
  refine ⟨(daaLow s.regs.a s.flags).1, fun h => ?_, fun h => ?_, fun h => ?_, fun h => ?_⟩
  · exact daaLow_add h ▸ ⟨rfl, rfl⟩
  · exact daaLow_keep h ▸ ⟨rfl, rfl⟩
  · exact daaHigh_add h ▸ ⟨rfl, rfl⟩
  · exact daaHigh_keep h ▸ ⟨rfl, rfl⟩

/-- Settles O47: the two corrections by `decimalAdjustA_effect`, the other flags as in the flag table,
and `A` and `F` are all that `DAA` writes. -/
theorem daaAdjustsAccumulator : Obligations.DaaAdjustsAccumulator := by
  refine ⟨decodes_of_alone rfl, fun s => ?_⟩
  obtain ⟨a1, hlow, hkeepLow, hhigh, hkeepHigh⟩ := decimalAdjustA_effect s
  obtain ⟨hreserved, hresult, -⟩ := decimalAdjustA_flags s
  exact ⟨s.decimalAdjustA, a1, rfl, hlow, hkeepLow, hhigh, hkeepHigh, hresult, hreserved,
    setAccFlags_changes s _ _⟩

end Sys2Proof.Machine
end
